-- ==== Sys2Proof/Word.lean ====
section
/-! DEFINITION. The word types of the block (spec/00_scope.md R7, spec/30_encoding.md R61). -/

namespace Sys2Proof

/-- `Word32`: every register value, argument, address and length (00_scope.md R7). -/
abbrev Word := BitVec 32

/-- One byte of system memory (20_memory.md R40). -/
abbrev Byte := BitVec 8

/-- `Idx`: a command index, the widest that the opcode table has rows for (00_scope.md R7); how many of its bits are
used is `Cfg.idxBits` (R6, log entry 17). -/
abbrev Idx := BitVec 6

/-- `REQ`: one request of the upward port (30_encoding.md R61). -/
abbrev Request := BitVec 100

end Sys2Proof
end

