-- ==== Sys2Proof/Config.lean ====
section
/-! DEFINITION. The configuration record `Cfg` of spec/00_scope.md R6, the names it is stated over, and the free
values: constants with no body, of which nothing can be proved. The values of the record stand in
Machine/Settings.lean. -/

namespace Sys2Proof

/-- The controller's seventeen registers, in the order of 10_state.md R20. -/
inductive Reg where
  | power | clkcr | arg | cmd | resp1 | resp2 | resp3 | resp4 | dtimer | dlen | dctrl | dcount | sta | icr | mask
  | idmactrl | idmabase
  deriving DecidableEq, Repr

/-- `DescKind`: the response kind of the Command Descriptor (10_state.md R17, 30_encoding.md R67). -/
inductive DescKind where
  | none | short | shortNoCrc | long | busy
  deriving DecidableEq, Repr, Inhabited

/-- `ReadKind`: the response kind operand of RECEIVE_RESPONSE (30_encoding.md R73). -/
inductive ReadKind where
  | present | busy | r3 | r6 | r7 | long
  deriving DecidableEq, Repr

/-- `Cfg`: every numeric literal of the block and every function the source leaves open (00_scope.md R6). Bit
fields are given by the number of their bit or of their lowest bit. -/
structure Cfg where
  /-- `ADDR_BITS`: width of a system-memory address; at most 32, since addresses are `Word32` (R7). -/
  addrBits : Fin 33
  /-- `IDX_BITS`: width of a command index; at most 6, since `Idx` is 6 bits wide (R7). -/
  idxBits : Fin 7
  /-- `BASE / 4`: the base address is a multiple of 4 (20_memory.md R42). -/
  baseWord : BitVec 30
  /-- `OFF(r)`: byte offset of a register from `BASE` (10_state.md R20). -/
  off : Reg → Word
  /-- Fields of the command register (10_state.md R23). -/
  cmdIndexLsb : Nat
  cmdTrans : Nat
  cmdStop : Nat
  cmdWaitLsb : Nat
  cmdEn : Nat
  /-- The four response-wait codes (10_state.md R23, 30_encoding.md R67). -/
  waitNone : BitVec 2
  waitShortCrc : BitVec 2
  waitShortNoCrc : BitVec 2
  waitLong : BitVec 2
  /-- Bits of the status register (10_state.md R24). -/
  stCcrcfail : Nat
  stDcrcfail : Nat
  stCtimeout : Nat
  stDtimeout : Nat
  stTxunderr : Nat
  stRxoverr : Nat
  stCmdrend : Nat
  stCmdsent : Nat
  stDataend : Nat
  stDbckend : Nat
  stDpsmact : Nat
  stIdmate : Nat
  /-- The word written to the interrupt-clear register (10_state.md R25). -/
  staticFlags : Word
  /-- Block-size field of the data-control register: lowest bit and mask (10_state.md R26). -/
  dctrlSizeLsb : Nat
  dctrlSizeMask : Word
  /-- Width bits and divider field of the clock-control register (10_state.md R27). -/
  clkcrWid4 : Nat
  clkcrWid8 : Nat
  clkcrClkdivMask : Word
  /-- `CLKDIV_FIXED`, at most `0x3FF` (30_encoding.md R76); OPEN. -/
  clkdivFixed : BitVec 10
  /-- Enable bit of the DMA-control register (10_state.md R30). -/
  idmaEn : Nat
  /-- Command indices (00_scope.md R6, 30_encoding.md R71). -/
  idxGoIdle : Idx
  idxSendOpCond : Idx
  idxSwitchFunc : Idx
  idxSendIfCond : Idx
  idxStop : Idx
  idxSendStatus : Idx
  idxSetBlocklen : Idx
  idxReadSingle : Idx
  idxReadMulti : Idx
  idxAppOpCond : Idx
  idxApp51 : Idx
  idxAppCmd : Idx
  /-- `RESP_KIND_OF` (30_encoding.md R72); OPEN. -/
  respKindOf : Idx → DescKind
  /-- `IS_INQUIRY_ARG` (30_encoding.md R70); OPEN. -/
  isInquiryArg : Word → Bool
  /-- `ACMD_SUPPRESS` (40_command_dispatch.md R105); OPEN. -/
  acmdSuppress : Idx → Bool
  /-- `DATA_FLAGS_OF` (30_encoding.md R75); OPEN. Only the bits of `DATA_ALL` are used. -/
  dataFlagsOf : Idx → Word
  /-- Argument augmentation (30_encoding.md R68). -/
  ocrPowerup : Word
  ocrVwin : Word
  /-- Argument of the cleanup stop-transmission (40_command_dispatch.md R119). -/
  stopArg : Word
  /-- One block, in bytes (41_data_path.md R151). -/
  blockMax : Word
  /-- Poll iterations and the delay of one miss, in microseconds (70_reset_and_hazards.md R252). -/
  cmdPollIters : Nat
  dataPollIters : Nat
  pollDelayUs : Nat
  /-- The maximum value of the data timer (41_data_path.md R155). -/
  dtimerMax : Word

/-! The OPEN fields of the record: what the source leaves to the platform (00_scope.md R6). No body. -/

/-- OPEN: `BASE / 4` of this machine (00_scope.md R6, 93_implementation_defined.md U18). -/
opaque Config.baseWord : BitVec 30

/-- OPEN: the fixed clock divider (43_host_surface.md R197, 93_implementation_defined.md U17). -/
opaque Config.clkdivFixed : BitVec 10

/-- OPEN: the declared response kind of an index (30_encoding.md R72, 93_implementation_defined.md U14). -/
opaque Config.respKindOf : Idx → DescKind

/-- OPEN: is a switch-function argument an inquiry (30_encoding.md R70, 93_implementation_defined.md U15)? -/
opaque Config.isInquiryArg : Word → Bool

/-- OPEN: does a set marker suppress the transfer bit of an index (40_command_dispatch.md R105, U3)? -/
opaque Config.acmdSuppress : Idx → Bool

/-- OPEN: the data-phase bits of an index (30_encoding.md R75, 93_implementation_defined.md U16). -/
opaque Config.dataFlagsOf : Idx → Word

/-! Free values: the number of the draw comes from State.draws. No body. -/

/-- Free value: the word CTRL answers a read of a register with, given the number of the draw and the word the
block last wrote there (20_memory.md R46, 93_implementation_defined.md U10). -/
opaque Config.ctrlAnswer : Nat → Reg → Word → Word

/-- Free value: a byte IDMA leaves in the armed buffer (20_memory.md R52, 93_implementation_defined.md U11). -/
opaque Config.idmaByte : Nat → Byte

/-- Free value: does SET_BUS_PARAMETERS with an invalid width complete with InvalidArgument (true) or with Success
(43_host_surface.md R196, 93_implementation_defined.md U9)? -/
opaque Config.badWidthIsInvalid : Nat → Bool

/-- Free value: the descriptor BUILD_DEVICE_PATH hands to HOST (43_host_surface.md R194, U20). -/
opaque Config.devicePath : Nat → List Byte

end Sys2Proof
end

