-- ==== Sys2Proof/Machine/Settings.lean ====
section
/-! DEFINITION. The values of the configuration record: `Cfg_ref` of spec/00_scope.md R6, and the machine's own
configuration, which keeps the OPEN fields open. -/

namespace Sys2Proof.Machine

/-- `Cfg.OFF`: the register offsets of 10_state.md R20. -/
def refOffset (r : Reg) : Word :=
  match r with
  | .power => 0x00
  | .clkcr => 0x04
  | .arg => 0x08
  | .cmd => 0x0C
  | .resp1 => 0x14
  | .resp2 => 0x18
  | .resp3 => 0x1C
  | .resp4 => 0x20
  | .dtimer => 0x24
  | .dlen => 0x28
  | .dctrl => 0x2C
  | .dcount => 0x30
  | .sta => 0x34
  | .icr => 0x38
  | .mask => 0x3C
  | .idmactrl => 0x50
  | .idmabase => 0x58

/-- The reference table of `RESP_KIND_OF` (30_encoding.md R72). -/
def refRespKind (idx : Idx) : DescKind :=
  match idx.toNat with
  | 0 => .none
  | 1 => .shortNoCrc
  | 2 => .long
  | 7 => .busy
  | 9 => .long
  | 10 => .long
  | 12 => .busy
  | 41 => .shortNoCrc
  | _ => .short

/-- `Cfg_ref`: every decided and general-knowledge value, and every OPEN field at its reference value
(00_scope.md R6). The base address has no reference value; 0 here. A test fixture, no claim about the chip. -/
def cfgRef : Cfg :=
  { addrBits := 32
    idxBits := 6
    baseWord := 0
    off := refOffset
    cmdIndexLsb := 0
    cmdTrans := 6
    cmdStop := 7
    cmdWaitLsb := 8
    cmdEn := 12
    waitNone := 0
    waitShortCrc := 1
    waitShortNoCrc := 2
    waitLong := 3
    stCcrcfail := 0
    stDcrcfail := 1
    stCtimeout := 2
    stDtimeout := 3
    stTxunderr := 4
    stRxoverr := 5
    stCmdrend := 6
    stCmdsent := 7
    stDataend := 8
    stDbckend := 10
    stDpsmact := 12
    stIdmate := 27
    staticFlags := 0x080005FF
    dctrlSizeLsb := 4
    dctrlSizeMask := 0x000000F0
    clkcrWid4 := 14
    clkcrWid8 := 15
    clkcrClkdivMask := 0x000003FF
    clkdivFixed := 4
    idmaEn := 0
    idxGoIdle := 0
    idxSendOpCond := 1
    idxSwitchFunc := 6
    idxSendIfCond := 8
    idxStop := 12
    idxSendStatus := 13
    idxSetBlocklen := 16
    idxReadSingle := 17
    idxReadMulti := 18
    idxAppOpCond := 41
    idxApp51 := 51
    idxAppCmd := 55
    respKindOf := refRespKind
    isInquiryArg := fun arg => !arg.getLsbD 31
    acmdSuppress := fun _ => true
    dataFlagsOf := fun _ => 0x0800053A
    ocrPowerup := 0x80000000
    ocrVwin := 0x00300000
    stopArg := 0
    blockMax := 512
    cmdPollIters := 10
    dataPollIters := 2000
    pollDelayUs := 1000
    dtimerMax := 0xFFFFFFFF }

/-- The configuration the machine runs with: the values of `Cfg_ref`, but each OPEN field the constant with no body
of Config.lean (00_scope.md R6). -/
def settings : Cfg :=
  { cfgRef with
    baseWord := Config.baseWord
    clkdivFixed := Config.clkdivFixed
    respKindOf := Config.respKindOf
    isInquiryArg := Config.isInquiryArg
    acmdSuppress := Config.acmdSuppress
    dataFlagsOf := Config.dataFlagsOf }

end Sys2Proof.Machine
end

