-- ==== Sys2Proof/Syntax.lean ====
section
/-! DEFINITION. The requests of the upward port: one constructor for each row of spec/opcode_table.json
(spec/30_encoding.md R60, R62). -/

namespace Sys2Proof

/-- The operations of the upward port (30_encoding.md R62). Operands the table of R62 does not list are ignored
by the block and are no field here. -/
inductive Instr where
  /-- CARD_PRESENT (43_host_surface.md R190). -/
  | cardp
  /-- READ_ONLY (43_host_surface.md R191). -/
  | rdonly
  /-- BUILD_DEVICE_PATH (43_host_surface.md R194). -/
  | devpath
  /-- NOTIFY_STATE (43_host_surface.md R192). -/
  | notify (state : Word)
  /-- SET_BUS_PARAMETERS (43_host_surface.md R195 to R197). -/
  | setbus (width clock timing : Word)
  /-- SEND_COMMAND of index 0 (class GO_IDLE, R130 of 40_command_dispatch.md). -/
  | sendcmd0 (arg : Word)
  /-- SEND_COMMAND of index 1 (class SEND_OP_COND, R131 of 40_command_dispatch.md). -/
  | sendcmd1 (arg : Word)
  /-- SEND_COMMAND of index 2 (class OTHER, R142 of 40_command_dispatch.md). -/
  | sendcmd2 (arg : Word)
  /-- SEND_COMMAND of index 3 (class OTHER, R142 of 40_command_dispatch.md). -/
  | sendcmd3 (arg : Word)
  /-- SEND_COMMAND of index 4 (class OTHER, R142 of 40_command_dispatch.md). -/
  | sendcmd4 (arg : Word)
  /-- SEND_COMMAND of index 5 (class OTHER, R142 of 40_command_dispatch.md). -/
  | sendcmd5 (arg : Word)
  /-- SEND_COMMAND of index 6 (class SWITCH_FUNC, R132 of 40_command_dispatch.md). -/
  | sendcmd6 (arg : Word)
  /-- SEND_COMMAND of index 7 (class OTHER, R142 of 40_command_dispatch.md). -/
  | sendcmd7 (arg : Word)
  /-- SEND_COMMAND of index 8 (class SEND_IF_COND, R133 of 40_command_dispatch.md). -/
  | sendcmd8 (arg : Word)
  /-- SEND_COMMAND of index 9 (class OTHER, R142 of 40_command_dispatch.md). -/
  | sendcmd9 (arg : Word)
  /-- SEND_COMMAND of index 10 (class OTHER, R142 of 40_command_dispatch.md). -/
  | sendcmd10 (arg : Word)
  /-- SEND_COMMAND of index 11 (class OTHER, R142 of 40_command_dispatch.md). -/
  | sendcmd11 (arg : Word)
  /-- SEND_COMMAND of index 12 (class STOP_TRANSMISSION, R134 of 40_command_dispatch.md). -/
  | sendcmd12 (arg : Word)
  /-- SEND_COMMAND of index 13 (class SEND_STATUS, R135 of 40_command_dispatch.md). -/
  | sendcmd13 (arg : Word)
  /-- SEND_COMMAND of index 14 (class OTHER, R142 of 40_command_dispatch.md). -/
  | sendcmd14 (arg : Word)
  /-- SEND_COMMAND of index 15 (class OTHER, R142 of 40_command_dispatch.md). -/
  | sendcmd15 (arg : Word)
  /-- SEND_COMMAND of index 16 (class SET_BLOCKLEN, R136 of 40_command_dispatch.md). -/
  | sendcmd16 (arg : Word)
  /-- SEND_COMMAND of index 17 (class READ_SINGLE, R137 of 40_command_dispatch.md). -/
  | sendcmd17 (arg : Word)
  /-- SEND_COMMAND of index 18 (class READ_MULTI, R138 of 40_command_dispatch.md). -/
  | sendcmd18 (arg : Word)
  /-- SEND_COMMAND of index 19 (class OTHER, R142 of 40_command_dispatch.md). -/
  | sendcmd19 (arg : Word)
  /-- SEND_COMMAND of index 20 (class OTHER, R142 of 40_command_dispatch.md). -/
  | sendcmd20 (arg : Word)
  /-- SEND_COMMAND of index 21 (class OTHER, R142 of 40_command_dispatch.md). -/
  | sendcmd21 (arg : Word)
  /-- SEND_COMMAND of index 22 (class OTHER, R142 of 40_command_dispatch.md). -/
  | sendcmd22 (arg : Word)
  /-- SEND_COMMAND of index 23 (class OTHER, R142 of 40_command_dispatch.md). -/
  | sendcmd23 (arg : Word)
  /-- SEND_COMMAND of index 24 (class OTHER, R142 of 40_command_dispatch.md). -/
  | sendcmd24 (arg : Word)
  /-- SEND_COMMAND of index 25 (class OTHER, R142 of 40_command_dispatch.md). -/
  | sendcmd25 (arg : Word)
  /-- SEND_COMMAND of index 26 (class OTHER, R142 of 40_command_dispatch.md). -/
  | sendcmd26 (arg : Word)
  /-- SEND_COMMAND of index 27 (class OTHER, R142 of 40_command_dispatch.md). -/
  | sendcmd27 (arg : Word)
  /-- SEND_COMMAND of index 28 (class OTHER, R142 of 40_command_dispatch.md). -/
  | sendcmd28 (arg : Word)
  /-- SEND_COMMAND of index 29 (class OTHER, R142 of 40_command_dispatch.md). -/
  | sendcmd29 (arg : Word)
  /-- SEND_COMMAND of index 30 (class OTHER, R142 of 40_command_dispatch.md). -/
  | sendcmd30 (arg : Word)
  /-- SEND_COMMAND of index 31 (class OTHER, R142 of 40_command_dispatch.md). -/
  | sendcmd31 (arg : Word)
  /-- SEND_COMMAND of index 32 (class OTHER, R142 of 40_command_dispatch.md). -/
  | sendcmd32 (arg : Word)
  /-- SEND_COMMAND of index 33 (class OTHER, R142 of 40_command_dispatch.md). -/
  | sendcmd33 (arg : Word)
  /-- SEND_COMMAND of index 34 (class OTHER, R142 of 40_command_dispatch.md). -/
  | sendcmd34 (arg : Word)
  /-- SEND_COMMAND of index 35 (class OTHER, R142 of 40_command_dispatch.md). -/
  | sendcmd35 (arg : Word)
  /-- SEND_COMMAND of index 36 (class OTHER, R142 of 40_command_dispatch.md). -/
  | sendcmd36 (arg : Word)
  /-- SEND_COMMAND of index 37 (class OTHER, R142 of 40_command_dispatch.md). -/
  | sendcmd37 (arg : Word)
  /-- SEND_COMMAND of index 38 (class OTHER, R142 of 40_command_dispatch.md). -/
  | sendcmd38 (arg : Word)
  /-- SEND_COMMAND of index 39 (class OTHER, R142 of 40_command_dispatch.md). -/
  | sendcmd39 (arg : Word)
  /-- SEND_COMMAND of index 40 (class OTHER, R142 of 40_command_dispatch.md). -/
  | sendcmd40 (arg : Word)
  /-- SEND_COMMAND of index 41 (class APP_OP_COND, R139 of 40_command_dispatch.md). -/
  | sendcmd41 (arg : Word)
  /-- SEND_COMMAND of index 42 (class OTHER, R142 of 40_command_dispatch.md). -/
  | sendcmd42 (arg : Word)
  /-- SEND_COMMAND of index 43 (class OTHER, R142 of 40_command_dispatch.md). -/
  | sendcmd43 (arg : Word)
  /-- SEND_COMMAND of index 44 (class OTHER, R142 of 40_command_dispatch.md). -/
  | sendcmd44 (arg : Word)
  /-- SEND_COMMAND of index 45 (class OTHER, R142 of 40_command_dispatch.md). -/
  | sendcmd45 (arg : Word)
  /-- SEND_COMMAND of index 46 (class OTHER, R142 of 40_command_dispatch.md). -/
  | sendcmd46 (arg : Word)
  /-- SEND_COMMAND of index 47 (class OTHER, R142 of 40_command_dispatch.md). -/
  | sendcmd47 (arg : Word)
  /-- SEND_COMMAND of index 48 (class OTHER, R142 of 40_command_dispatch.md). -/
  | sendcmd48 (arg : Word)
  /-- SEND_COMMAND of index 49 (class OTHER, R142 of 40_command_dispatch.md). -/
  | sendcmd49 (arg : Word)
  /-- SEND_COMMAND of index 50 (class OTHER, R142 of 40_command_dispatch.md). -/
  | sendcmd50 (arg : Word)
  /-- SEND_COMMAND of index 51 (class APP_51, R140 of 40_command_dispatch.md). -/
  | sendcmd51 (arg : Word)
  /-- SEND_COMMAND of index 52 (class OTHER, R142 of 40_command_dispatch.md). -/
  | sendcmd52 (arg : Word)
  /-- SEND_COMMAND of index 53 (class OTHER, R142 of 40_command_dispatch.md). -/
  | sendcmd53 (arg : Word)
  /-- SEND_COMMAND of index 54 (class OTHER, R142 of 40_command_dispatch.md). -/
  | sendcmd54 (arg : Word)
  /-- SEND_COMMAND of index 55 (class APP_CMD, R141 of 40_command_dispatch.md). -/
  | sendcmd55 (arg : Word)
  /-- SEND_COMMAND of index 56 (class OTHER, R142 of 40_command_dispatch.md). -/
  | sendcmd56 (arg : Word)
  /-- SEND_COMMAND of index 57 (class OTHER, R142 of 40_command_dispatch.md). -/
  | sendcmd57 (arg : Word)
  /-- SEND_COMMAND of index 58 (class OTHER, R142 of 40_command_dispatch.md). -/
  | sendcmd58 (arg : Word)
  /-- SEND_COMMAND of index 59 (class OTHER, R142 of 40_command_dispatch.md). -/
  | sendcmd59 (arg : Word)
  /-- SEND_COMMAND of index 60 (class OTHER, R142 of 40_command_dispatch.md). -/
  | sendcmd60 (arg : Word)
  /-- SEND_COMMAND of index 61 (class OTHER, R142 of 40_command_dispatch.md). -/
  | sendcmd61 (arg : Word)
  /-- SEND_COMMAND of index 62 (class OTHER, R142 of 40_command_dispatch.md). -/
  | sendcmd62 (arg : Word)
  /-- SEND_COMMAND of index 63 (class OTHER, R142 of 40_command_dispatch.md). -/
  | sendcmd63 (arg : Word)
  /-- RECEIVE_RESPONSE (42_response_reader.md R180); `kind` is the code `a0[2:0]` of 30_encoding.md R73. -/
  | recvrsp (kind : BitVec 3) (out : Word)
  /-- READ_BLOCK (41_data_path.md R160). -/
  | rdblk (address length buffer : Word)
  /-- WRITE_BLOCK (41_data_path.md R170). -/
  | wrblk (address length buffer : Word)
  deriving DecidableEq, Repr

end Sys2Proof
end

