-- ==== Sys2Proof/WellFormed.lean ====
section
/-! DEFINITION. Which requests are well formed: the reserved reader kinds (spec/30_encoding.md R63, R73). -/

namespace Sys2Proof

/-- The only operand of a constructor of `Instr` that can be reserved is the reader kind of RECVRSP: codes 6 and 7
spell no operation (30_encoding.md R63, R73). Every other operand may be any word (R62). -/
def Instr.wellFormed (i : Instr) : Bool :=
  match i with
  | .recvrsp kind _ => decide (kind.toNat ≤ 5)
  | .cardp | .rdonly | .devpath | .notify _ | .setbus _ _ _ | .rdblk _ _ _ | .wrblk _ _ _ => true
  | .sendcmd0 _ | .sendcmd1 _ | .sendcmd2 _ | .sendcmd3 _ | .sendcmd4 _ | .sendcmd5 _ | .sendcmd6 _ | .sendcmd7 _
  | .sendcmd8 _ | .sendcmd9 _ | .sendcmd10 _ | .sendcmd11 _ | .sendcmd12 _ | .sendcmd13 _ | .sendcmd14 _ | .sendcmd15 _
  | .sendcmd16 _ | .sendcmd17 _ | .sendcmd18 _ | .sendcmd19 _ | .sendcmd20 _ | .sendcmd21 _ | .sendcmd22 _ | .sendcmd23 _
  | .sendcmd24 _ | .sendcmd25 _ | .sendcmd26 _ | .sendcmd27 _ | .sendcmd28 _ | .sendcmd29 _ | .sendcmd30 _ | .sendcmd31 _
  | .sendcmd32 _ | .sendcmd33 _ | .sendcmd34 _ | .sendcmd35 _ | .sendcmd36 _ | .sendcmd37 _ | .sendcmd38 _ | .sendcmd39 _
  | .sendcmd40 _ | .sendcmd41 _ | .sendcmd42 _ | .sendcmd43 _ | .sendcmd44 _ | .sendcmd45 _ | .sendcmd46 _ | .sendcmd47 _
  | .sendcmd48 _ | .sendcmd49 _ | .sendcmd50 _ | .sendcmd51 _ | .sendcmd52 _ | .sendcmd53 _ | .sendcmd54 _ | .sendcmd55 _
  | .sendcmd56 _ | .sendcmd57 _ | .sendcmd58 _ | .sendcmd59 _ | .sendcmd60 _ | .sendcmd61 _ | .sendcmd62 _ | .sendcmd63 _ => true

end Sys2Proof
end

