-- ==== Sys2Proof/Decode.lean ====
section
/-! DEFINITION. Decoding and encoding of requests (spec/30_encoding.md R61 to R63, R73, R80). -/

namespace Sys2Proof

/-- Field `op` of a request: bits [3:0] (30_encoding.md R61). -/
def Request.op (req : Request) : BitVec 4 := req.extractLsb' 0 4

/-- Field `a0` of a request: bits [35:4] (30_encoding.md R61). -/
def Request.a0 (req : Request) : Word := req.extractLsb' 4 32

/-- Field `a1` of a request: bits [67:36] (30_encoding.md R61). -/
def Request.a1 (req : Request) : Word := req.extractLsb' 36 32

/-- Field `a2` of a request: bits [99:68] (30_encoding.md R61). -/
def Request.a2 (req : Request) : Word := req.extractLsb' 68 32

/-- The header `HDR = REQ[9:0]` (30_encoding.md R61). -/
def Request.header (req : Request) : BitVec 10 := req.extractLsb' 0 10

/-- `REQ = op | (a0 << 4) | (a1 << 36) | (a2 << 68)` (30_encoding.md R78): the four fields side by side. -/
def packRequest (op : BitVec 4) (a0 a1 a2 : Word) : Request := ((a2 ++ a1) ++ a0) ++ op

/-- Why a request spells no operation: each is refused as UsageFault(ReservedEncoding) (30_encoding.md R63). -/
inductive DecodeError where
  /-- `op` is 9 to 15. -/
  | reservedOp
  /-- A SEND_COMMAND whose `a0` has a bit above the `IDX_BITS` of the index. -/
  | reservedCommandBits
  /-- A RECEIVE_RESPONSE whose `a0[31:3]` is not 0. -/
  | reservedResponseBits
  /-- A RECEIVE_RESPONSE whose `kind` is 6 or 7. -/
  | reservedKind
  deriving DecidableEq, Repr

/-- What decoding a request gives: the operation, or why there is none. -/
inductive Decoded where
  | op (i : Instr)
  | reserved (why : DecodeError)
  deriving DecidableEq, Repr

/-- The SEND_COMMAND request of a command index: `CMD<n> arg` (30_encoding.md R79). -/
def Instr.sendcmd (idx : Idx) (arg : Word) : Instr :=
  match idx.toNat with
  | 0 => .sendcmd0 arg
  | 1 => .sendcmd1 arg
  | 2 => .sendcmd2 arg
  | 3 => .sendcmd3 arg
  | 4 => .sendcmd4 arg
  | 5 => .sendcmd5 arg
  | 6 => .sendcmd6 arg
  | 7 => .sendcmd7 arg
  | 8 => .sendcmd8 arg
  | 9 => .sendcmd9 arg
  | 10 => .sendcmd10 arg
  | 11 => .sendcmd11 arg
  | 12 => .sendcmd12 arg
  | 13 => .sendcmd13 arg
  | 14 => .sendcmd14 arg
  | 15 => .sendcmd15 arg
  | 16 => .sendcmd16 arg
  | 17 => .sendcmd17 arg
  | 18 => .sendcmd18 arg
  | 19 => .sendcmd19 arg
  | 20 => .sendcmd20 arg
  | 21 => .sendcmd21 arg
  | 22 => .sendcmd22 arg
  | 23 => .sendcmd23 arg
  | 24 => .sendcmd24 arg
  | 25 => .sendcmd25 arg
  | 26 => .sendcmd26 arg
  | 27 => .sendcmd27 arg
  | 28 => .sendcmd28 arg
  | 29 => .sendcmd29 arg
  | 30 => .sendcmd30 arg
  | 31 => .sendcmd31 arg
  | 32 => .sendcmd32 arg
  | 33 => .sendcmd33 arg
  | 34 => .sendcmd34 arg
  | 35 => .sendcmd35 arg
  | 36 => .sendcmd36 arg
  | 37 => .sendcmd37 arg
  | 38 => .sendcmd38 arg
  | 39 => .sendcmd39 arg
  | 40 => .sendcmd40 arg
  | 41 => .sendcmd41 arg
  | 42 => .sendcmd42 arg
  | 43 => .sendcmd43 arg
  | 44 => .sendcmd44 arg
  | 45 => .sendcmd45 arg
  | 46 => .sendcmd46 arg
  | 47 => .sendcmd47 arg
  | 48 => .sendcmd48 arg
  | 49 => .sendcmd49 arg
  | 50 => .sendcmd50 arg
  | 51 => .sendcmd51 arg
  | 52 => .sendcmd52 arg
  | 53 => .sendcmd53 arg
  | 54 => .sendcmd54 arg
  | 55 => .sendcmd55 arg
  | 56 => .sendcmd56 arg
  | 57 => .sendcmd57 arg
  | 58 => .sendcmd58 arg
  | 59 => .sendcmd59 arg
  | 60 => .sendcmd60 arg
  | 61 => .sendcmd61 arg
  | 62 => .sendcmd62 arg
  | _ => .sendcmd63 arg

/-- SEND_COMMAND: `idx` is the low `IDX_BITS` bits of `a0`, the other bits of `a0` must be 0, `arg = a1`
(30_encoding.md R62, R63). -/
def decodeCommand (cfg : Cfg) (a0 a1 : Word) : Decoded :=
  if a0.toNat < 2 ^ cfg.idxBits.val then .op (Instr.sendcmd (a0.setWidth 6) a1) else .reserved .reservedCommandBits

/-- RECEIVE_RESPONSE: `kind = a0[2:0]`, the other bits of `a0` must be 0, `out = a1` (30_encoding.md R62, R63, R73). -/
def decodeResponse (a0 a1 : Word) : Decoded :=
  if a0.extractLsb' 3 29 = 0 then
    if (a0.extractLsb' 0 3).toNat ≤ 5 then .op (.recvrsp (a0.extractLsb' 0 3) a1) else .reserved .reservedKind
  else .reserved .reservedResponseBits

/-- The decoder: `op` selects the operation, the reserved-bit checks come after (30_encoding.md R62, R63, R80). -/
def decode (req : Request) : Decoded :=
  match req.op.toNat with
  | 0 => .op .cardp
  | 1 => .op .rdonly
  | 2 => .op .devpath
  | 3 => .op (.notify req.a0)
  | 4 => .op (.setbus req.a0 req.a1 req.a2)
  | 5 => decodeCommand Machine.settings req.a0 req.a1
  | 6 => decodeResponse req.a0 req.a1
  | 7 => .op (.rdblk req.a0 req.a1 req.a2)
  | 8 => .op (.wrblk req.a0 req.a1 req.a2)
  | _ => .reserved .reservedOp

/-- The operation a decoded request names, if it names one. -/
def Decoded.instr? (d : Decoded) : Option Instr :=
  match d with
  | .op i => some i
  | .reserved _ => none

/-- A request whose low `nbits` bits are those of `w` and whose other bits are 0: the table numbers the bits of a
request as 30_encoding.md R61 does, and a request is one word, so there is no byte order to apply. -/
def tableRequest (nbits w : Nat) : Request := BitVec.ofNat 100 (w % 2 ^ nbits)

/-- The operation the decoder reads from a table word. -/
def decodeTableWord (nbits w : Nat) : Option Instr := (decode (tableRequest nbits w)).instr?

/-- The request word of an operation, operands of R62 in their fields and every other bit 0
(30_encoding.md R61, R62, R78). -/
def encode (i : Instr) : Request :=
  match i with
  | .cardp => packRequest 0 0 0 0
  | .rdonly => packRequest 1 0 0 0
  | .devpath => packRequest 2 0 0 0
  | .notify state => packRequest 3 state 0 0
  | .setbus width clock timing => packRequest 4 width clock timing
  | .sendcmd0 arg => packRequest 5 0 arg 0
  | .sendcmd1 arg => packRequest 5 1 arg 0
  | .sendcmd2 arg => packRequest 5 2 arg 0
  | .sendcmd3 arg => packRequest 5 3 arg 0
  | .sendcmd4 arg => packRequest 5 4 arg 0
  | .sendcmd5 arg => packRequest 5 5 arg 0
  | .sendcmd6 arg => packRequest 5 6 arg 0
  | .sendcmd7 arg => packRequest 5 7 arg 0
  | .sendcmd8 arg => packRequest 5 8 arg 0
  | .sendcmd9 arg => packRequest 5 9 arg 0
  | .sendcmd10 arg => packRequest 5 10 arg 0
  | .sendcmd11 arg => packRequest 5 11 arg 0
  | .sendcmd12 arg => packRequest 5 12 arg 0
  | .sendcmd13 arg => packRequest 5 13 arg 0
  | .sendcmd14 arg => packRequest 5 14 arg 0
  | .sendcmd15 arg => packRequest 5 15 arg 0
  | .sendcmd16 arg => packRequest 5 16 arg 0
  | .sendcmd17 arg => packRequest 5 17 arg 0
  | .sendcmd18 arg => packRequest 5 18 arg 0
  | .sendcmd19 arg => packRequest 5 19 arg 0
  | .sendcmd20 arg => packRequest 5 20 arg 0
  | .sendcmd21 arg => packRequest 5 21 arg 0
  | .sendcmd22 arg => packRequest 5 22 arg 0
  | .sendcmd23 arg => packRequest 5 23 arg 0
  | .sendcmd24 arg => packRequest 5 24 arg 0
  | .sendcmd25 arg => packRequest 5 25 arg 0
  | .sendcmd26 arg => packRequest 5 26 arg 0
  | .sendcmd27 arg => packRequest 5 27 arg 0
  | .sendcmd28 arg => packRequest 5 28 arg 0
  | .sendcmd29 arg => packRequest 5 29 arg 0
  | .sendcmd30 arg => packRequest 5 30 arg 0
  | .sendcmd31 arg => packRequest 5 31 arg 0
  | .sendcmd32 arg => packRequest 5 32 arg 0
  | .sendcmd33 arg => packRequest 5 33 arg 0
  | .sendcmd34 arg => packRequest 5 34 arg 0
  | .sendcmd35 arg => packRequest 5 35 arg 0
  | .sendcmd36 arg => packRequest 5 36 arg 0
  | .sendcmd37 arg => packRequest 5 37 arg 0
  | .sendcmd38 arg => packRequest 5 38 arg 0
  | .sendcmd39 arg => packRequest 5 39 arg 0
  | .sendcmd40 arg => packRequest 5 40 arg 0
  | .sendcmd41 arg => packRequest 5 41 arg 0
  | .sendcmd42 arg => packRequest 5 42 arg 0
  | .sendcmd43 arg => packRequest 5 43 arg 0
  | .sendcmd44 arg => packRequest 5 44 arg 0
  | .sendcmd45 arg => packRequest 5 45 arg 0
  | .sendcmd46 arg => packRequest 5 46 arg 0
  | .sendcmd47 arg => packRequest 5 47 arg 0
  | .sendcmd48 arg => packRequest 5 48 arg 0
  | .sendcmd49 arg => packRequest 5 49 arg 0
  | .sendcmd50 arg => packRequest 5 50 arg 0
  | .sendcmd51 arg => packRequest 5 51 arg 0
  | .sendcmd52 arg => packRequest 5 52 arg 0
  | .sendcmd53 arg => packRequest 5 53 arg 0
  | .sendcmd54 arg => packRequest 5 54 arg 0
  | .sendcmd55 arg => packRequest 5 55 arg 0
  | .sendcmd56 arg => packRequest 5 56 arg 0
  | .sendcmd57 arg => packRequest 5 57 arg 0
  | .sendcmd58 arg => packRequest 5 58 arg 0
  | .sendcmd59 arg => packRequest 5 59 arg 0
  | .sendcmd60 arg => packRequest 5 60 arg 0
  | .sendcmd61 arg => packRequest 5 61 arg 0
  | .sendcmd62 arg => packRequest 5 62 arg 0
  | .sendcmd63 arg => packRequest 5 63 arg 0
  | .recvrsp kind out => packRequest 6 (kind.setWidth 32) out 0
  | .rdblk address length buffer => packRequest 7 address length buffer
  | .wrblk address length buffer => packRequest 8 address length buffer

/-- One row of the opcode table: `HDR & mask = pattern` (30_encoding.md R80). -/
structure OpcodeRow where
  mask : BitVec 10
  pattern : BitVec 10
  deriving DecidableEq, Repr

/-- The row of an operation other than SEND_COMMAND: mask `0x00F` (30_encoding.md R80). -/
def opRow (op : BitVec 4) : OpcodeRow := ⟨0x00F#10, op.setWidth 10⟩

/-- The row of a SEND_COMMAND: mask `0x3FF`, pattern `5 | (idx << 4)` (30_encoding.md R80). -/
def commandRow (idx : Idx) : OpcodeRow := ⟨0x3FF#10, 5#10 ||| (idx.setWidth 10 <<< 4)⟩

/-- The 72 rows of spec/opcode_table.json, in its order. -/
def opcodeRows : List OpcodeRow :=
  [0, 1, 2, 3, 4].map opRow ++ (List.range 64).map (fun n => commandRow (BitVec.ofNat 6 n)) ++ [6, 7, 8].map opRow

/-- Does a row claim a header (30_encoding.md R80)? -/
def OpcodeRow.claims (row : OpcodeRow) (hdr : BitVec 10) : Bool := hdr &&& row.mask == row.pattern

/-- The row of the opcode table an operation belongs to. -/
def Instr.row (i : Instr) : OpcodeRow :=
  match i with
  | .cardp => opRow 0
  | .rdonly => opRow 1
  | .devpath => opRow 2
  | .notify _ => opRow 3
  | .setbus _ _ _ => opRow 4
  | .sendcmd0 _ => commandRow 0
  | .sendcmd1 _ => commandRow 1
  | .sendcmd2 _ => commandRow 2
  | .sendcmd3 _ => commandRow 3
  | .sendcmd4 _ => commandRow 4
  | .sendcmd5 _ => commandRow 5
  | .sendcmd6 _ => commandRow 6
  | .sendcmd7 _ => commandRow 7
  | .sendcmd8 _ => commandRow 8
  | .sendcmd9 _ => commandRow 9
  | .sendcmd10 _ => commandRow 10
  | .sendcmd11 _ => commandRow 11
  | .sendcmd12 _ => commandRow 12
  | .sendcmd13 _ => commandRow 13
  | .sendcmd14 _ => commandRow 14
  | .sendcmd15 _ => commandRow 15
  | .sendcmd16 _ => commandRow 16
  | .sendcmd17 _ => commandRow 17
  | .sendcmd18 _ => commandRow 18
  | .sendcmd19 _ => commandRow 19
  | .sendcmd20 _ => commandRow 20
  | .sendcmd21 _ => commandRow 21
  | .sendcmd22 _ => commandRow 22
  | .sendcmd23 _ => commandRow 23
  | .sendcmd24 _ => commandRow 24
  | .sendcmd25 _ => commandRow 25
  | .sendcmd26 _ => commandRow 26
  | .sendcmd27 _ => commandRow 27
  | .sendcmd28 _ => commandRow 28
  | .sendcmd29 _ => commandRow 29
  | .sendcmd30 _ => commandRow 30
  | .sendcmd31 _ => commandRow 31
  | .sendcmd32 _ => commandRow 32
  | .sendcmd33 _ => commandRow 33
  | .sendcmd34 _ => commandRow 34
  | .sendcmd35 _ => commandRow 35
  | .sendcmd36 _ => commandRow 36
  | .sendcmd37 _ => commandRow 37
  | .sendcmd38 _ => commandRow 38
  | .sendcmd39 _ => commandRow 39
  | .sendcmd40 _ => commandRow 40
  | .sendcmd41 _ => commandRow 41
  | .sendcmd42 _ => commandRow 42
  | .sendcmd43 _ => commandRow 43
  | .sendcmd44 _ => commandRow 44
  | .sendcmd45 _ => commandRow 45
  | .sendcmd46 _ => commandRow 46
  | .sendcmd47 _ => commandRow 47
  | .sendcmd48 _ => commandRow 48
  | .sendcmd49 _ => commandRow 49
  | .sendcmd50 _ => commandRow 50
  | .sendcmd51 _ => commandRow 51
  | .sendcmd52 _ => commandRow 52
  | .sendcmd53 _ => commandRow 53
  | .sendcmd54 _ => commandRow 54
  | .sendcmd55 _ => commandRow 55
  | .sendcmd56 _ => commandRow 56
  | .sendcmd57 _ => commandRow 57
  | .sendcmd58 _ => commandRow 58
  | .sendcmd59 _ => commandRow 59
  | .sendcmd60 _ => commandRow 60
  | .sendcmd61 _ => commandRow 61
  | .sendcmd62 _ => commandRow 62
  | .sendcmd63 _ => commandRow 63
  | .recvrsp _ _ => opRow 6
  | .rdblk _ _ _ => opRow 7
  | .wrblk _ _ _ => opRow 8

/-- The bits of a request that its operation reads: `op` and the operands the table of 30_encoding.md R62 lists. -/
def Instr.readBits (i : Instr) : Request :=
  match i with
  | .cardp | .rdonly | .devpath => packRequest 0xF 0 0 0
  | .notify _ => packRequest 0xF (BitVec.allOnes 32) 0 0
  | .setbus _ _ _ | .rdblk _ _ _ | .wrblk _ _ _ =>
    packRequest 0xF (BitVec.allOnes 32) (BitVec.allOnes 32) (BitVec.allOnes 32)
  | .recvrsp _ _
  | .sendcmd0 _ | .sendcmd1 _ | .sendcmd2 _ | .sendcmd3 _ | .sendcmd4 _ | .sendcmd5 _ | .sendcmd6 _ | .sendcmd7 _
  | .sendcmd8 _ | .sendcmd9 _ | .sendcmd10 _ | .sendcmd11 _ | .sendcmd12 _ | .sendcmd13 _ | .sendcmd14 _ | .sendcmd15 _
  | .sendcmd16 _ | .sendcmd17 _ | .sendcmd18 _ | .sendcmd19 _ | .sendcmd20 _ | .sendcmd21 _ | .sendcmd22 _ | .sendcmd23 _
  | .sendcmd24 _ | .sendcmd25 _ | .sendcmd26 _ | .sendcmd27 _ | .sendcmd28 _ | .sendcmd29 _ | .sendcmd30 _ | .sendcmd31 _
  | .sendcmd32 _ | .sendcmd33 _ | .sendcmd34 _ | .sendcmd35 _ | .sendcmd36 _ | .sendcmd37 _ | .sendcmd38 _ | .sendcmd39 _
  | .sendcmd40 _ | .sendcmd41 _ | .sendcmd42 _ | .sendcmd43 _ | .sendcmd44 _ | .sendcmd45 _ | .sendcmd46 _ | .sendcmd47 _
  | .sendcmd48 _ | .sendcmd49 _ | .sendcmd50 _ | .sendcmd51 _ | .sendcmd52 _ | .sendcmd53 _ | .sendcmd54 _ | .sendcmd55 _
  | .sendcmd56 _ | .sendcmd57 _ | .sendcmd58 _ | .sendcmd59 _ | .sendcmd60 _ | .sendcmd61 _ | .sendcmd62 _ | .sendcmd63 _ => packRequest 0xF (BitVec.allOnes 32) (BitVec.allOnes 32) 0

end Sys2Proof
end

