-- ==== Sys2Proof/Machine/State.lean ====
section
/-! DEFINITION. The state of the block (spec/10_state.md), its completions and its events (spec/00_scope.md R8, R9),
the reasons a step can stop, and the state after reset (R31). -/

namespace Sys2Proof.Machine

/-- The completion statuses (30_encoding.md R64, 60_exceptions.md R210). -/
inductive Status where
  | success | commandTimeout | crcFailure | dataTimeout | dataCrcFailure | fifoUnderrun | fifoOverrun
  | dmaTransferError | invalidArgument | usageFault
  deriving DecidableEq, Repr

/-- The reasons of a UsageFault completion (60_exceptions.md R214). -/
inductive UsageReason where
  | doubleLatch | noLatchedCommand | badLength | reservedEncoding
  deriving DecidableEq, Repr

/-- `CPL = (status, r0)` (30_encoding.md R64), with the reason of a UsageFault (60_exceptions.md R214) and the
descriptor that BUILD_DEVICE_PATH hands over (43_host_surface.md R194). -/
structure Completion where
  status : Status
  r0 : Word
  reason : Option UsageReason
  devicePath : Option (List Byte)
  deriving DecidableEq, Repr

/-- `S.PHASE`: the lifecycle of the deferred command (10_state.md R15, 40_command_dispatch.md R120). -/
inductive Phase where
  | idle | deferred | armed | executing | completed | failed
  deriving DecidableEq, Repr

/-- `SEQ.STEP`: none between operations, else the number of the rule being executed (10_state.md R15). -/
inductive SeqStep where
  | none
  | rule (n : Nat)
  deriving DecidableEq, Repr

/-- The diagnostic log events (60_exceptions.md R228). -/
inductive LogEvent where
  /-- `LOG(CommandTimeout, idx)`, `LOG(CrcFailure, idx)` and `LOG(<data error>, idx)`. -/
  | commandError (status : Status) (idx : Idx)
  /-- `LOG(SetBlockLenFailed, st)`. -/
  | setBlockLenFailed (status : Status)
  /-- `LOG(BadBusWidth, width)`. -/
  | badBusWidth (width : Word)
  deriving DecidableEq, Repr

/-- One event of the block (00_scope.md R8, R9). -/
inductive Event where
  /-- `RD r=v`. -/
  | rd (r : Reg) (v : Word)
  /-- `WR r=v`. -/
  | wr (r : Reg) (v : Word)
  /-- `DLY`. -/
  | dly
  /-- `CACHE(a,n)`. -/
  | cache (a n : Word)
  /-- `MEMWR(a)=v`. -/
  | memWr (a v : Word)
  /-- `LOG(code,info)`. -/
  | log (e : LogEvent)
  deriving DecidableEq, Repr

/-- The word the block last wrote to each of the controller's registers (10_state.md R20). What a read of one
returns is CTRL's free choice and not this word (20_memory.md R46). -/
structure CtrlRegs where
  power : Word
  clkcr : Word
  arg : Word
  cmd : Word
  resp1 : Word
  resp2 : Word
  resp3 : Word
  resp4 : Word
  dtimer : Word
  dlen : Word
  dctrl : Word
  dcount : Word
  sta : Word
  icr : Word
  mask : Word
  idmactrl : Word
  idmabase : Word
  deriving DecidableEq, Repr

/-- MEM (20_memory.md R40): cells in rising order of their addresses; an address with no cell has no known value. -/
abbrev Memory := List Host.Cell

/-- The state of the machine: the block's registers (10_state.md R10, R15), the words it last wrote to CTRL, system
memory, what HOST and CTRL have still to say, and what has been observed on the block's ports. -/
structure State where
  /-- `S.LATCH_OPCODE` (10_state.md R11). -/
  latchOpcode : Idx
  /-- `S.LATCH_ARG` (10_state.md R12). -/
  latchArg : Word
  /-- `S.PENDING` (10_state.md R13). -/
  pending : Bool
  /-- `S.NEXT_IS_ACMD`, the marker (10_state.md R14). -/
  nextIsAcmd : Bool
  /-- `S.PHASE` (10_state.md R15). -/
  phase : Phase
  /-- `SEQ.STEP` (10_state.md R15). -/
  seqStep : SeqStep
  /-- `SEQ.ITER` (10_state.md R15). -/
  seqIter : Nat
  /-- The word last written to each register of CTRL (10_state.md R20). -/
  ctrl : CtrlRegs
  /-- System memory (20_memory.md R40). -/
  mem : Memory
  /-- The requests HOST has still to issue, in order (20_memory.md R48). -/
  hostRequests : List Request
  /-- The model's own: the words CTRL will answer the next register reads with, any list (20_memory.md R46). When it
  is empty a read takes a free value. -/
  ctrlAnswers : List Word
  /-- The model's own: how many free values have been drawn. -/
  draws : Nat
  /-- The event trace, oldest first (00_scope.md R8, R9). -/
  trace : List Event
  /-- The completion delivered last on the upward port (30_encoding.md R64). -/
  completion : Option Completion
  deriving DecidableEq, Repr

/-- Why a step can stop with a fault. No request ever raises one: every error of the block is a completion
(60_exceptions.md R210, R214). -/
inductive Fault where
  /-- Raised by Step.step in a state that stands inside an operation (SEQ.STEP is not none) with no request
  waiting: the model runs an operation as one step and holds no half-run one. No run reaches it. Safe. -/
  | insideOperation
  deriving DecidableEq, Repr

/-- Why a step can be refused. -/
inductive Refusal where
  /-- Raised by an arm of Machine/Dispatch.lean whose instruction has no meaning yet. Safe. No arm raises it now. -/
  | notModelled (mnemonic : String)
  /-- Raised by Step.step when a request is waiting while SEQ.STEP is not none: the upward port accepts a request
  only when no operation is in progress (70_reset_and_hazards.md R246, U5). No run reaches it. The stop is safe; that HOST never overlaps requests is an
  assumption about HOST and unsafe (log entry 16). -/
  | portBusy
  deriving DecidableEq, Repr

/-- No word written to CTRL yet: the spec gives no reset value (10_state.md R32). DESIGN CHOICE 0, log entry 4. -/
def CtrlRegs.reset : CtrlRegs :=
  { power := 0, clkcr := 0, arg := 0, cmd := 0, resp1 := 0, resp2 := 0, resp3 := 0, resp4 := 0, dtimer := 0, dlen := 0,
    dctrl := 0, dcount := 0, sta := 0, icr := 0, mask := 0, idmactrl := 0, idmabase := 0 }

/-- The machine right after reset: the block's registers as 10_state.md R31 gives them; nothing requested, observed
or written (70_reset_and_hazards.md R240). -/
def State.reset : State :=
  { latchOpcode := 0, latchArg := 0, pending := false, nextIsAcmd := false, phase := .idle, seqStep := .none,
    seqIter := 0, ctrl := CtrlRegs.reset, mem := [], hostRequests := [], ctrlAnswers := [], draws := 0, trace := [],
    completion := none }

end Sys2Proof.Machine
end

