-- ==== Sys2Proof/Machine/Ops.lean ====
section
/-! DEFINITION. The named operations over the state: updates, system memory, the primitives of spec/00_scope.md R8,
completions, the UsageFault completion and the exit path of DISPATCH (spec/60_exceptions.md R214, R217). -/

namespace Sys2Proof.Machine

/-- `BIT(n)` (00_scope.md R7). -/
def bit (n : Nat) : Word := 1#32 <<< n

/-! ### Updates of one part of the state -/

/-- Append an event to the trace (00_scope.md R8). -/
def State.emit (e : Event) (s : State) : State := { s with trace := s.trace ++ [e] }

/-- Write the whole latch: a command is deferred (40_command_dispatch.md R101). -/
def State.latch (idx : Idx) (arg : Word) (s : State) : State :=
  { s with latchOpcode := idx, latchArg := arg, pending := true, phase := .deferred }

/-- The latch clear (41_data_path.md R162): opcode, argument and pending flag to 0, phase to Idle. -/
def State.clearLatch (s : State) : State :=
  { s with latchOpcode := 0, latchArg := 0, pending := false, phase := .idle }

/-- `S.NEXT_IS_ACMD <- b` (10_state.md R14). -/
def State.setMarker (b : Bool) (s : State) : State := { s with nextIsAcmd := b }

/-- `S.PHASE <- p` (40_command_dispatch.md R120). -/
def State.setPhase (p : Phase) (s : State) : State := { s with phase := p }

/-- SEQ begins rule `n` (10_state.md R15). -/
def State.atRule (n : Nat) (s : State) : State := { s with seqStep := .rule n }

/-- `SEQ.ITER <- n` (40_command_dispatch.md R121). -/
def State.setIter (n : Nat) (s : State) : State := { s with seqIter := n }

/-- Remember the word written to a register of CTRL. -/
def State.setCtrl (regs : CtrlRegs) (s : State) : State := { s with ctrl := regs }

/-- Replace system memory. -/
def State.setMem (m : Memory) (s : State) : State := { s with mem := m }

/-- Replace what CTRL has still to answer. -/
def State.setAnswers (l : List Word) (s : State) : State := { s with ctrlAnswers := l }

/-- Count `n` more free values as drawn. -/
def State.addDraws (n : Nat) (s : State) : State := { s with draws := s.draws + n }

/-- Replace the requests HOST has still to issue. -/
def State.setRequests (l : List Request) (s : State) : State := { s with hostRequests := l }

/-- Deliver a completion on the upward port (30_encoding.md R64). -/
def State.deliver (c : Completion) (s : State) : State := { s with completion := some c }

/-- No operation in progress: SEQ.STEP none, SEQ.ITER 0 (10_state.md R15). -/
def State.seqIdle (s : State) : State := { s with seqStep := .none, seqIter := 0 }

/-! ### Completions -/

/-- A completion with a status and a result (30_encoding.md R64). -/
def Completion.of (status : Status) (r0 : Word) : Completion :=
  { status := status, r0 := r0, reason := none, devicePath := none }

/-- The UsageFault completion of a reason (60_exceptions.md R214). -/
def Completion.usage (why : UsageReason) : Completion :=
  { status := .usageFault, r0 := 0, reason := some why, devicePath := none }

/-- `raise UsageFault(reason)`: no event, no change of state but the completion (00_scope.md R8,
60_exceptions.md R214). -/
def usageFault (why : UsageReason) (s : State) : State := s.deliver (Completion.usage why)

/-- `return st`: the operation completes and SEQ is between operations again (00_scope.md R8, 10_state.md R15). -/
def finish (status : Status) (s : State) : State := s.seqIdle.deliver (Completion.of status 0)

/-- The number of a status on the completion port (30_encoding.md R64). -/
def Status.code (st : Status) : BitVec 4 :=
  match st with
  | .success => 0
  | .commandTimeout => 1
  | .crcFailure => 2
  | .dataTimeout => 3
  | .dataCrcFailure => 4
  | .fifoUnderrun => 5
  | .fifoOverrun => 6
  | .dmaTransferError => 7
  | .invalidArgument => 8
  | .usageFault => 15

/-! ### System memory (20_memory.md R40, R41) -/

/-- The byte at an address, `none` where nothing is known of it. -/
def Memory.read (m : Memory) (x : Nat) : Option Byte :=
  match m with
  | [] => none
  | (a, b) :: rest => if x = a then some b else Memory.read rest x

/-- Write one byte, keeping the cells in rising order. -/
def Memory.write (m : Memory) (x : Nat) (v : Byte) : Memory :=
  match m with
  | [] => [(x, v)]
  | (a, b) :: rest =>
    if x < a then (x, v) :: (a, b) :: rest
    else if x = a then (x, v) :: rest
    else (a, b) :: Memory.write rest x v

/-- The canonical form: addresses strictly rising, all inside the space of `ADDR_BITS` bits
(20_memory.md R40). -/
abbrev Memory.wf (m : Memory) : Prop :=
  (m.map Prod.fst).Pairwise (· < ·) ∧ ∀ c ∈ m, c.1 < 2 ^ settings.addrBits.val

/-- The byte address `a + k`, modulo 2^`ADDR_BITS` (20_memory.md R40, R42). -/
def byteAddress (cfg : Cfg) (a : Word) (k : Nat) : Nat := (a.toNat + k) % 2 ^ cfg.addrBits.val

/-- Byte `k` of a word, little-endian (20_memory.md R41). -/
def byteOf (v : Word) (k : Nat) : Byte := v.extractLsb' (8 * k) 8

/-- One 32-bit little-endian write (20_memory.md R41). -/
def Memory.writeWord (cfg : Cfg) (m : Memory) (a v : Word) : Memory :=
  Memory.write (Memory.write (Memory.write (Memory.write m (byteAddress cfg a 0) (byteOf v 0))
    (byteAddress cfg a 1) (byteOf v 1)) (byteAddress cfg a 2) (byteOf v 2)) (byteAddress cfg a 3) (byteOf v 3)

/-- The first `n` bytes from `a` replaced by free bytes, the first of them draw number `first`
(20_memory.md R52). -/
def Memory.fillFree (cfg : Cfg) (m : Memory) (a : Word) (first : Nat) (n : Nat) : Memory :=
  match n with
  | 0 => m
  | k + 1 => Memory.write (Memory.fillFree cfg m a first k) (byteAddress cfg a k) (Config.idmaByte (first + k))

/-! ### The controller's registers -/

/-- The word the block last wrote to a register. -/
def CtrlRegs.get (c : CtrlRegs) (r : Reg) : Word :=
  match r with
  | .power => c.power
  | .clkcr => c.clkcr
  | .arg => c.arg
  | .cmd => c.cmd
  | .resp1 => c.resp1
  | .resp2 => c.resp2
  | .resp3 => c.resp3
  | .resp4 => c.resp4
  | .dtimer => c.dtimer
  | .dlen => c.dlen
  | .dctrl => c.dctrl
  | .dcount => c.dcount
  | .sta => c.sta
  | .icr => c.icr
  | .mask => c.mask
  | .idmactrl => c.idmactrl
  | .idmabase => c.idmabase

/-- Remember a word written to a register. -/
def CtrlRegs.set (c : CtrlRegs) (r : Reg) (v : Word) : CtrlRegs :=
  match r with
  | .power => { c with power := v }
  | .clkcr => { c with clkcr := v }
  | .arg => { c with arg := v }
  | .cmd => { c with cmd := v }
  | .resp1 => { c with resp1 := v }
  | .resp2 => { c with resp2 := v }
  | .resp3 => { c with resp3 := v }
  | .resp4 => { c with resp4 := v }
  | .dtimer => { c with dtimer := v }
  | .dlen => { c with dlen := v }
  | .dctrl => { c with dctrl := v }
  | .dcount => { c with dcount := v }
  | .sta => { c with sta := v }
  | .icr => { c with icr := v }
  | .mask => { c with mask := v }
  | .idmactrl => { c with idmactrl := v }
  | .idmabase => { c with idmabase := v }

/-- The byte address of a register on the downward port: `BASE + OFF(r)` (00_scope.md R8, 20_memory.md R40). -/
def regAddress (cfg : Cfg) (r : Reg) : Word := (cfg.baseWord ++ 0#2) + cfg.off r

/-! ### The primitives (00_scope.md R8) -/

/-- The word a read of `r` returns now: CTRL's next answer, or a free value (20_memory.md R46). -/
def State.answer (s : State) (r : Reg) : Word :=
  match s.ctrlAnswers with
  | v :: _ => v
  | [] => Config.ctrlAnswer s.draws r (s.ctrl.get r)

/-- `RegRead(r)`: the state after the read; the word read is `s.answer r`. -/
def State.afterRead (s : State) (r : Reg) : State :=
  match s.ctrlAnswers with
  | v :: rest => (s.setAnswers rest).emit (.rd r v)
  | [] => (s.addDraws 1).emit (.rd r (s.answer r))

/-- `RegWrite(r, v)`. -/
def State.regWrite (r : Reg) (v : Word) (s : State) : State := (s.setCtrl (s.ctrl.set r v)).emit (.wr r v)

/-- `Delay()`. -/
def State.delay (s : State) : State := s.emit .dly

/-- `CacheWbInv(a, n)` (20_memory.md R50). -/
def State.cacheWbInv (a n : Word) (s : State) : State := s.emit (.cache a n)

/-- `MemWrite(a, 4, v)` (20_memory.md R41). -/
def State.memWrite (cfg : Cfg) (a v : Word) (s : State) : State :=
  (s.setMem (Memory.writeWord cfg s.mem a v)).emit (.memWr a v)

/-- `Log(code, info)` (60_exceptions.md R228). -/
def State.log (e : LogEvent) (s : State) : State := s.emit (.log e)

/-- What IDMA does to the armed range `a` to `a+n-1`: each byte becomes a free byte (20_memory.md R52). -/
def State.idmaWrites (cfg : Cfg) (a : Word) (n : Nat) (s : State) : State :=
  (s.setMem (Memory.fillFree cfg s.mem a s.draws n)).addDraws n

/-- Step 12, the exit path of DISPATCH: clear the static flags, clear the transfer bit of the command register by a
read-modify-write (40_command_dispatch.md R117, 60_exceptions.md R217). -/
def exitPath (cfg : Cfg) (s : State) : State :=
  let s1 := (s.atRule 117).regWrite .icr cfg.staticFlags
  (s1.afterRead .cmd).regWrite .cmd (s1.answer .cmd &&& ~~~bit cfg.cmdTrans)

/-! ### The upward request port -/

/-- The request HOST issues next, and the state once the port has taken it (20_memory.md R51). -/
def nextRequest (s : State) : Option (Request × State) :=
  match s.hostRequests with
  | [] => none
  | req :: rest => some (req, s.setRequests rest)

/-- HOST issues a request next, and SEQ is ready to take it (70_reset_and_hazards.md R246). -/
def presentRequest (req : Request) (s : State) : State :=
  { s with hostRequests := req :: s.hostRequests, seqStep := .none }

/-- A request that spells no operation (30_encoding.md R63). -/
def rejectRequest (s : State) : State := usageFault .reservedEncoding s

end Sys2Proof.Machine
end

