-- ==== Sys2Proof/Machine/Operands.lean ====
section
/-! DEFINITION. Operand forms and the words the block assembles (spec/30_encoding.md R66 to R70, R73, R76,
spec/41_data_path.md R151, R152) and the two transient descriptors (spec/10_state.md R17). -/

namespace Sys2Proof.Machine

/-- The Command Descriptor (10_state.md R17). -/
structure CommandDescriptor where
  idx : Idx
  arg : Word
  kind : DescKind
  trans : Bool
  stop : Bool
  deriving DecidableEq, Repr

/-- The Data Transfer Descriptor (10_state.md R17); the DMA base is `buf` (41_data_path.md R151). -/
structure TransferDescriptor where
  buf : Word
  n : Word
  e : Nat
  deriving DecidableEq, Repr

/-- The reader kind a code names (30_encoding.md R73); 6 and 7 name none. -/
def readKind? (code : BitVec 3) : Option ReadKind :=
  match code.toNat with
  | 0 => some .present
  | 1 => some .busy
  | 2 => some .r3
  | 3 => some .r6
  | 4 => some .r7
  | 5 => some .long
  | _ => none

/-- `DATA_BEARING(idx, arg)` (30_encoding.md R70). -/
def dataBearing (cfg : Cfg) (idx : Idx) (arg : Word) : Bool :=
  (idx == cfg.idxSwitchFunc && !cfg.isInquiryArg arg) || idx == cfg.idxApp51 || idx == cfg.idxReadSingle
    || idx == cfg.idxReadMulti

/-- `WAITCODE(kind)` (30_encoding.md R67). -/
def waitCode (cfg : Cfg) (kind : DescKind) : BitVec 2 :=
  match kind with
  | .none => cfg.waitNone
  | .short => cfg.waitShortCrc
  | .busy => cfg.waitShortCrc
  | .shortNoCrc => cfg.waitShortNoCrc
  | .long => cfg.waitLong

/-- The control word (30_encoding.md R66). -/
def controlWord (cfg : Cfg) (idx : Idx) (kind : DescKind) (trans stop : Bool) : Word :=
  (idx.setWidth 32 <<< cfg.cmdIndexLsb) ||| bit cfg.cmdEn ||| (if trans then bit cfg.cmdTrans else 0)
    ||| (if stop then bit cfg.cmdStop else 0) ||| ((waitCode cfg kind).setWidth 32 <<< cfg.cmdWaitLsb)

/-- Argument augmentation (30_encoding.md R68, 40_command_dispatch.md R107). -/
def augment (cfg : Cfg) (idx : Idx) (arg : Word) : Word :=
  arg ||| (if idx = cfg.idxSendOpCond then cfg.ocrPowerup else 0) ||| (if idx = cfg.idxAppOpCond then cfg.ocrVwin else 0)

/-- Step 2: the Command Descriptor, from the marker as it stands on entry (40_command_dispatch.md R105). -/
def describe (cfg : Cfg) (idx : Idx) (arg : Word) (marker : Bool) : CommandDescriptor :=
  { idx := idx
    arg := arg
    kind := cfg.respKindOf idx
    trans := dataBearing cfg idx arg && !(marker && cfg.acmdSuppress idx)
    stop := idx == cfg.idxStop }

/-- The clamp `min(len, BLOCK_MAX)` (41_data_path.md R151). -/
def clampLength (cfg : Cfg) (len : Word) : Word := if len ≤ cfg.blockMax then len else cfg.blockMax

/-- Is a clamped length a power of two: not 0 and at most one bit set (41_data_path.md R152)? -/
def validLength (n : Word) : Bool := n != 0 && (n &&& (n - 1)) == 0

/-- `log2(n)` (00_scope.md R7, 30_encoding.md R69). -/
def blockExponent (n : Word) : Nat := n.toNat.log2

/-- The Data Transfer Descriptor of a READ_BLOCK (41_data_path.md R151). -/
def transferOf (cfg : Cfg) (buf len : Word) : TransferDescriptor :=
  { buf := buf, n := clampLength cfg len, e := blockExponent (clampLength cfg len) }

/-- The data-control word: the size field of `d` replaced by the exponent (30_encoding.md R69). -/
def dctrlWord (cfg : Cfg) (d : Word) (e : Nat) : Word :=
  (d &&& ~~~cfg.dctrlSizeMask) ||| (BitVec.ofNat 32 e <<< cfg.dctrlSizeLsb)

/-- The width bits of a bus width; `none` for a width that is not 0, 4 or 8 (30_encoding.md R76,
43_host_surface.md R195, R196). -/
def widthBits? (cfg : Cfg) (width : Word) : Option Word :=
  if width = 0 then some 0
  else if width = 4 then some (bit cfg.clkcrWid4)
  else if width = 8 then some (bit cfg.clkcrWid8)
  else none

/-- The clock-control word (30_encoding.md R76). -/
def clkcrWord (cfg : Cfg) (c wbits : Word) : Word :=
  (c &&& ~~~(bit cfg.clkcrWid4 ||| bit cfg.clkcrWid8 ||| cfg.clkcrClkdivMask)) ||| wbits
    ||| cfg.clkdivFixed.setWidth 32

end Sys2Proof.Machine
end

