-- ==== Sys2Proof/Machine/Flags.lean ====
section
/-! DEFINITION. Status masks and classification (spec/10_state.md R24, R25, spec/30_encoding.md R74, R75,
spec/40_command_dispatch.md R112, R113, R116). -/

namespace Sys2Proof.Machine

/-- The command-phase awaited mask `CMD_MASK(idx, kind)` (30_encoding.md R74). -/
def cmdMask (cfg : Cfg) (idx : Idx) (kind : DescKind) : Word :=
  bit cfg.stCtimeout |||
    (if idx = cfg.idxGoIdle then bit cfg.stCmdsent
     else bit cfg.stCmdrend ||| (if kind = .short ∨ kind = .busy then bit cfg.stCcrcfail else 0))

/-- `DATA_ALL`: the seven data-phase bits (30_encoding.md R75). -/
def dataAll (cfg : Cfg) : Word :=
  bit cfg.stDcrcfail ||| bit cfg.stDtimeout ||| bit cfg.stTxunderr ||| bit cfg.stRxoverr ||| bit cfg.stDataend
    ||| bit cfg.stDbckend ||| bit cfg.stIdmate

/-- The data-phase awaited mask: `DATA_FLAGS_OF(idx)`, which must be a subset of `DATA_ALL` (30_encoding.md R75). -/
def dataMask (cfg : Cfg) (idx : Idx) : Word := cfg.dataFlagsOf idx &&& dataAll cfg

/-- Step 9: classification of the command phase (40_command_dispatch.md R112). -/
def classifyCommand (cfg : Cfg) (mask : Word) (hit : Bool) (sta : Word) : Status :=
  if !hit then .commandTimeout
  else if sta.getLsbD cfg.stCtimeout then .commandTimeout
  else if (sta &&& mask).getLsbD cfg.stCcrcfail then .crcFailure
  else .success

/-- Classification of the data phase (40_command_dispatch.md R116). -/
def classifyData (cfg : Cfg) (mask : Word) (hit : Bool) (sta : Word) : Status :=
  if !hit then .dataTimeout
  else if (sta &&& mask).getLsbD cfg.stDcrcfail then .dataCrcFailure
  else if (sta &&& mask).getLsbD cfg.stDtimeout then .dataTimeout
  else if (sta &&& mask).getLsbD cfg.stTxunderr then .fifoUnderrun
  else if (sta &&& mask).getLsbD cfg.stRxoverr then .fifoOverrun
  else if (sta &&& mask).getLsbD cfg.stIdmate then .dmaTransferError
  else .success

/-- The polling primitives, whose timeout is not logged (40_command_dispatch.md R113). -/
def isPollingPrimitive (cfg : Cfg) (idx : Idx) : Bool :=
  idx == cfg.idxSendOpCond || idx == cfg.idxSendStatus || idx == cfg.idxSendIfCond

/-- The log of a command-phase status (40_command_dispatch.md R113). -/
def logCommand (cfg : Cfg) (idx : Idx) (st : Status) (s : State) : State :=
  match st with
  | .commandTimeout => if isPollingPrimitive cfg idx then s else s.log (.commandError .commandTimeout idx)
  | .crcFailure => s.log (.commandError .crcFailure idx)
  | _ => s

/-- The log of a data-phase status (40_command_dispatch.md R116). -/
def logData (idx : Idx) (st : Status) (s : State) : State :=
  if st = .success then s else s.log (.commandError st idx)

end Sys2Proof.Machine
end

