-- ==== Sys2Proof/Machine/Protocol.lean ====
section
/-! DEFINITION. DISPATCH, the direct dispatch protocol in thirteen steps (spec/40_command_dispatch.md R103 to R121)
and CONFIGURE, the data-path configurator (spec/41_data_path.md R150 to R158). Every definition takes the
configuration as an argument (spec/00_scope.md R6). -/

namespace Sys2Proof.Machine

/-- What a sub-sequence returns: a status and the state it leaves. -/
structure Result where
  status : Status
  state : State

/-- What a poll returns (40_command_dispatch.md R121). -/
structure PollResult where
  hit : Bool
  sta : Word
  state : State

/-- The loop of POLL with `left` iterations to go and `last` the snapshot read last: one status read, one test and,
on a miss, one delay and one count of SEQ.ITER (40_command_dispatch.md R121). -/
def pollLoop (mask : Word) (left : Nat) (last : Word) (s : State) : PollResult :=
  match left with
  | 0 => ⟨false, last, s⟩
  | k + 1 =>
    let sta := s.answer .sta
    let s1 := s.afterRead .sta
    if sta &&& mask ≠ 0 then ⟨true, sta, s1⟩
    else pollLoop mask k sta (s1.delay.setIter (s1.seqIter + 1))

/-- `POLL(mask, iters)` (40_command_dispatch.md R121). -/
def poll (mask : Word) (iters : Nat) (s : State) : PollResult := pollLoop mask iters 0 (s.setIter 0)

/-- Step 1, engine disable (40_command_dispatch.md R104). -/
def engineDisable (cfg : Cfg) (s : State) : State :=
  let s1 := (s.atRule 104).afterRead .cmd
  if (s.answer .cmd).getLsbD cfg.cmdEn then s1.regWrite .cmd 0 else s1

/-- Step 3, marker update (40_command_dispatch.md R106). -/
def updateMarker (cfg : Cfg) (idx : Idx) (s : State) : State := (s.atRule 106).setMarker (idx == cfg.idxAppCmd)

/-- Step 6, data-control clear (40_command_dispatch.md R109). -/
def clearDataControl (d : CommandDescriptor) (s : State) : State :=
  let s1 := s.atRule 109
  if !d.trans && !s1.nextIsAcmd then s1.regWrite .dctrl 0 else s1

/-- Steps 4 to 7: augmentation, flag clear, data-control clear, issue (40_command_dispatch.md R107 to R110). -/
def issueCommand (cfg : Cfg) (d : CommandDescriptor) (s : State) : State :=
  (((clearDataControl d ((s.atRule 108).regWrite .icr cfg.staticFlags)).atRule 110).regWrite .arg
    (augment cfg d.idx d.arg)).regWrite .cmd (controlWord cfg d.idx d.kind d.trans d.stop)

/-- Steps 8 and 9: the command poll, its classification and its log (40_command_dispatch.md R111 to R113). -/
def commandPhase (cfg : Cfg) (d : CommandDescriptor) (s : State) : Result :=
  let mask := cmdMask cfg d.idx d.kind
  let p := poll mask cfg.cmdPollIters (s.atRule 111)
  let st := classifyCommand cfg mask p.hit p.sta
  ⟨st, logCommand cfg d.idx st (p.state.atRule 113)⟩

/-- Step 11: the data poll, its classification and its log (40_command_dispatch.md R115, R116). -/
def dataPhase (cfg : Cfg) (d : CommandDescriptor) (s : State) : Result :=
  let mask := dataMask cfg d.idx
  let p := poll mask cfg.dataPollIters (s.atRule 115)
  let st := classifyData cfg mask p.hit p.sta
  ⟨st, logData d.idx st (p.state.atRule 116)⟩

/-- Step 10, exit without data phase (40_command_dispatch.md R114). -/
def quietExit (cfg : Cfg) (s : State) : State := (s.atRule 114).regWrite .icr cfg.staticFlags

/-- What follows step 9: the step-10 exit, the data phase, and the exit path of step 12
(40_command_dispatch.md R114 to R117). -/
def afterCommandPhase (cfg : Cfg) (d : CommandDescriptor) (r : Result) : Result :=
  if r.status = .success then
    if d.trans then ⟨(dataPhase cfg d r.state).status, exitPath cfg (dataPhase cfg d r.state).state⟩
    else ⟨.success, quietExit cfg r.state⟩
  else ⟨r.status, exitPath cfg r.state⟩

/-- Steps 1 to 12 (40_command_dispatch.md R104 to R117). -/
def dispatchBody (cfg : Cfg) (idx : Idx) (arg : Word) (s : State) : Result :=
  let s1 := engineDisable cfg s
  let d := describe cfg idx arg s1.nextIsAcmd
  afterCommandPhase cfg d (commandPhase cfg d (issueCommand cfg d (updateMarker cfg idx s1)))

/-- Step 13, cleanup after an error: a fresh status read and, when the data path is still active, one nested
DISPATCH of the stop-transmission, whose failure overrides (40_command_dispatch.md R118, R119). -/
def cleanup (cfg : Cfg) (r : Result) : Result :=
  let s := r.state.atRule 118
  let s1 := s.afterRead .sta
  if (s.answer .sta).getLsbD cfg.stDpsmact then
    let q := dispatchBody cfg cfg.idxStop cfg.stopArg s1
    ⟨if q.status ≠ .success then q.status else r.status, q.state⟩
  else ⟨r.status, s1⟩

/-- `DISPATCH(idx, arg, top)` (40_command_dispatch.md R103). -/
def dispatch (cfg : Cfg) (idx : Idx) (arg : Word) (top : Bool) (s : State) : Result :=
  let r := dispatchBody cfg idx arg s
  if r.status ≠ .success ∧ top = true then cleanup cfg r else r

/-- The set-block-length of CONFIGURE, whose failure is logged and dropped (41_data_path.md R154). -/
def setBlockLength (cfg : Cfg) (n : Word) (s : State) : State :=
  let r := dispatch cfg cfg.idxSetBlocklen n true s
  if r.status ≠ .success then (r.state.atRule 154).log (.setBlockLenFailed r.status) else r.state

/-- The data registers (41_data_path.md R155 to R157): timeout, length, DMA base, block size, DMA enable. -/
def programTransfer (cfg : Cfg) (t : TransferDescriptor) (s : State) : State :=
  let s1 := (((s.atRule 155).regWrite .dtimer cfg.dtimerMax).regWrite .dlen t.n).regWrite .idmabase t.buf
  ((s1.afterRead .dctrl).regWrite .dctrl (dctrlWord cfg (s1.answer .dctrl) t.e)).regWrite .idmactrl (bit cfg.idmaEn)

/-- CONFIGURE once the length is checked (41_data_path.md R150, R153 to R158). -/
def configure (cfg : Cfg) (t : TransferDescriptor) (s : State) : State :=
  programTransfer cfg t (setBlockLength cfg t.n ((s.atRule 153).cacheWbInv t.buf t.n))

end Sys2Proof.Machine
end

