-- ==== Sys2Proof/Machine/Block.lean ====
section
/-! DEFINITION. READ_BLOCK and WRITE_BLOCK (spec/41_data_path.md R160 to R170). -/

namespace Sys2Proof.Machine

/-- The replay: the latched command is dispatched and the phase moves from Armed over Executing to Completed or
Failed (41_data_path.md R160, 40_command_dispatch.md R120). -/
def replay (cfg : Cfg) (s : State) : Result :=
  let s1 := ((s.atRule 160).setPhase .armed).setPhase .executing
  let r := dispatch cfg s1.latchOpcode s1.latchArg true s1
  ⟨r.status, r.state.setPhase (if r.status = .success then .completed else .failed)⟩

/-- What follows the replay: the latch clear, what IDMA left in the buffer, the second cache request
(41_data_path.md R162, R163, 20_memory.md R52). -/
def afterReplay (cfg : Cfg) (t : TransferDescriptor) (s : State) : State :=
  (((s.atRule 162).clearLatch).idmaWrites cfg t.buf t.n.toNat).cacheWbInv t.buf t.n

/-- READ_BLOCK once a command is latched and the length is good (41_data_path.md R160). -/
def transferBlock (cfg : Cfg) (t : TransferDescriptor) (s : State) : State :=
  let r := replay cfg (configure cfg t s)
  finish r.status (afterReplay cfg t r.state)

/-- READ_BLOCK (41_data_path.md R160): nothing latched (R161) is tested before a bad length (R152). -/
def readBlock (cfg : Cfg) (len buf : Word) (s : State) : State :=
  if !s.pending then usageFault .noLatchedCommand s
  else if !validLength (clampLength cfg len) then usageFault .badLength s
  else transferBlock cfg (transferOf cfg buf len) s

/-- RDBLK (41_data_path.md R160); `address` is ignored (R164). -/
def execRdblk (_address length buffer : Word) (s : State) : Host.Outcome State Fault Refusal :=
  .next (readBlock settings length buffer s)

/-- WRBLK, the stub (41_data_path.md R170): Success, no event, nothing read or written. -/
def execWrblk (_address _length _buffer : Word) (s : State) : Host.Outcome State Fault Refusal :=
  .next (s.deliver (Completion.of .success 0))

end Sys2Proof.Machine
end

