-- ==== Sys2Proof/Machine/Command.lean ====
section
/-! DEFINITION. SEND_COMMAND (spec/40_command_dispatch.md R100 to R102) and the meanings of the 64 command indices
(R130 to R142). -/

namespace Sys2Proof.Machine

/-- SEND_COMMAND (40_command_dispatch.md R100): a data-bearing command is deferred (R101), or refused while one is
latched (R102); any other is dispatched at once (R103). -/
def sendCommand (cfg : Cfg) (idx : Idx) (arg : Word) (s : State) : State :=
  if dataBearing cfg idx arg then
    if s.pending then usageFault .doubleLatch s
    else (s.latch idx arg).deliver (Completion.of .success 0)
  else
    let r := dispatch cfg idx arg true s
    finish r.status r.state

/-- SENDCMD_0 (class GO_IDLE, R130). -/
def execSendcmd0 (arg : Word) (s : State) : Host.Outcome State Fault Refusal := .next (sendCommand settings 0 arg s)

/-- SENDCMD_1 (class SEND_OP_COND, R131). -/
def execSendcmd1 (arg : Word) (s : State) : Host.Outcome State Fault Refusal := .next (sendCommand settings 1 arg s)

/-- SENDCMD_2 (class OTHER, R142). -/
def execSendcmd2 (arg : Word) (s : State) : Host.Outcome State Fault Refusal := .next (sendCommand settings 2 arg s)

/-- SENDCMD_3 (class OTHER, R142). -/
def execSendcmd3 (arg : Word) (s : State) : Host.Outcome State Fault Refusal := .next (sendCommand settings 3 arg s)

/-- SENDCMD_4 (class OTHER, R142). -/
def execSendcmd4 (arg : Word) (s : State) : Host.Outcome State Fault Refusal := .next (sendCommand settings 4 arg s)

/-- SENDCMD_5 (class OTHER, R142). -/
def execSendcmd5 (arg : Word) (s : State) : Host.Outcome State Fault Refusal := .next (sendCommand settings 5 arg s)

/-- SENDCMD_6 (class SWITCH_FUNC, R132). -/
def execSendcmd6 (arg : Word) (s : State) : Host.Outcome State Fault Refusal := .next (sendCommand settings 6 arg s)

/-- SENDCMD_7 (class OTHER, R142). -/
def execSendcmd7 (arg : Word) (s : State) : Host.Outcome State Fault Refusal := .next (sendCommand settings 7 arg s)

/-- SENDCMD_8 (class SEND_IF_COND, R133). -/
def execSendcmd8 (arg : Word) (s : State) : Host.Outcome State Fault Refusal := .next (sendCommand settings 8 arg s)

/-- SENDCMD_9 (class OTHER, R142). -/
def execSendcmd9 (arg : Word) (s : State) : Host.Outcome State Fault Refusal := .next (sendCommand settings 9 arg s)

/-- SENDCMD_10 (class OTHER, R142). -/
def execSendcmd10 (arg : Word) (s : State) : Host.Outcome State Fault Refusal := .next (sendCommand settings 10 arg s)

/-- SENDCMD_11 (class OTHER, R142). -/
def execSendcmd11 (arg : Word) (s : State) : Host.Outcome State Fault Refusal := .next (sendCommand settings 11 arg s)

/-- SENDCMD_12 (class STOP_TRANSMISSION, R134). -/
def execSendcmd12 (arg : Word) (s : State) : Host.Outcome State Fault Refusal := .next (sendCommand settings 12 arg s)

/-- SENDCMD_13 (class SEND_STATUS, R135). -/
def execSendcmd13 (arg : Word) (s : State) : Host.Outcome State Fault Refusal := .next (sendCommand settings 13 arg s)

/-- SENDCMD_14 (class OTHER, R142). -/
def execSendcmd14 (arg : Word) (s : State) : Host.Outcome State Fault Refusal := .next (sendCommand settings 14 arg s)

/-- SENDCMD_15 (class OTHER, R142). -/
def execSendcmd15 (arg : Word) (s : State) : Host.Outcome State Fault Refusal := .next (sendCommand settings 15 arg s)

/-- SENDCMD_16 (class SET_BLOCKLEN, R136). -/
def execSendcmd16 (arg : Word) (s : State) : Host.Outcome State Fault Refusal := .next (sendCommand settings 16 arg s)

/-- SENDCMD_17 (class READ_SINGLE, R137). -/
def execSendcmd17 (arg : Word) (s : State) : Host.Outcome State Fault Refusal := .next (sendCommand settings 17 arg s)

/-- SENDCMD_18 (class READ_MULTI, R138). -/
def execSendcmd18 (arg : Word) (s : State) : Host.Outcome State Fault Refusal := .next (sendCommand settings 18 arg s)

/-- SENDCMD_19 (class OTHER, R142). -/
def execSendcmd19 (arg : Word) (s : State) : Host.Outcome State Fault Refusal := .next (sendCommand settings 19 arg s)

/-- SENDCMD_20 (class OTHER, R142). -/
def execSendcmd20 (arg : Word) (s : State) : Host.Outcome State Fault Refusal := .next (sendCommand settings 20 arg s)

/-- SENDCMD_21 (class OTHER, R142). -/
def execSendcmd21 (arg : Word) (s : State) : Host.Outcome State Fault Refusal := .next (sendCommand settings 21 arg s)

/-- SENDCMD_22 (class OTHER, R142). -/
def execSendcmd22 (arg : Word) (s : State) : Host.Outcome State Fault Refusal := .next (sendCommand settings 22 arg s)

/-- SENDCMD_23 (class OTHER, R142). -/
def execSendcmd23 (arg : Word) (s : State) : Host.Outcome State Fault Refusal := .next (sendCommand settings 23 arg s)

/-- SENDCMD_24 (class OTHER, R142). -/
def execSendcmd24 (arg : Word) (s : State) : Host.Outcome State Fault Refusal := .next (sendCommand settings 24 arg s)

/-- SENDCMD_25 (class OTHER, R142). -/
def execSendcmd25 (arg : Word) (s : State) : Host.Outcome State Fault Refusal := .next (sendCommand settings 25 arg s)

/-- SENDCMD_26 (class OTHER, R142). -/
def execSendcmd26 (arg : Word) (s : State) : Host.Outcome State Fault Refusal := .next (sendCommand settings 26 arg s)

/-- SENDCMD_27 (class OTHER, R142). -/
def execSendcmd27 (arg : Word) (s : State) : Host.Outcome State Fault Refusal := .next (sendCommand settings 27 arg s)

/-- SENDCMD_28 (class OTHER, R142). -/
def execSendcmd28 (arg : Word) (s : State) : Host.Outcome State Fault Refusal := .next (sendCommand settings 28 arg s)

/-- SENDCMD_29 (class OTHER, R142). -/
def execSendcmd29 (arg : Word) (s : State) : Host.Outcome State Fault Refusal := .next (sendCommand settings 29 arg s)

/-- SENDCMD_30 (class OTHER, R142). -/
def execSendcmd30 (arg : Word) (s : State) : Host.Outcome State Fault Refusal := .next (sendCommand settings 30 arg s)

/-- SENDCMD_31 (class OTHER, R142). -/
def execSendcmd31 (arg : Word) (s : State) : Host.Outcome State Fault Refusal := .next (sendCommand settings 31 arg s)

/-- SENDCMD_32 (class OTHER, R142). -/
def execSendcmd32 (arg : Word) (s : State) : Host.Outcome State Fault Refusal := .next (sendCommand settings 32 arg s)

/-- SENDCMD_33 (class OTHER, R142). -/
def execSendcmd33 (arg : Word) (s : State) : Host.Outcome State Fault Refusal := .next (sendCommand settings 33 arg s)

/-- SENDCMD_34 (class OTHER, R142). -/
def execSendcmd34 (arg : Word) (s : State) : Host.Outcome State Fault Refusal := .next (sendCommand settings 34 arg s)

/-- SENDCMD_35 (class OTHER, R142). -/
def execSendcmd35 (arg : Word) (s : State) : Host.Outcome State Fault Refusal := .next (sendCommand settings 35 arg s)

/-- SENDCMD_36 (class OTHER, R142). -/
def execSendcmd36 (arg : Word) (s : State) : Host.Outcome State Fault Refusal := .next (sendCommand settings 36 arg s)

/-- SENDCMD_37 (class OTHER, R142). -/
def execSendcmd37 (arg : Word) (s : State) : Host.Outcome State Fault Refusal := .next (sendCommand settings 37 arg s)

/-- SENDCMD_38 (class OTHER, R142). -/
def execSendcmd38 (arg : Word) (s : State) : Host.Outcome State Fault Refusal := .next (sendCommand settings 38 arg s)

/-- SENDCMD_39 (class OTHER, R142). -/
def execSendcmd39 (arg : Word) (s : State) : Host.Outcome State Fault Refusal := .next (sendCommand settings 39 arg s)

/-- SENDCMD_40 (class OTHER, R142). -/
def execSendcmd40 (arg : Word) (s : State) : Host.Outcome State Fault Refusal := .next (sendCommand settings 40 arg s)

/-- SENDCMD_41 (class APP_OP_COND, R139). -/
def execSendcmd41 (arg : Word) (s : State) : Host.Outcome State Fault Refusal := .next (sendCommand settings 41 arg s)

/-- SENDCMD_42 (class OTHER, R142). -/
def execSendcmd42 (arg : Word) (s : State) : Host.Outcome State Fault Refusal := .next (sendCommand settings 42 arg s)

/-- SENDCMD_43 (class OTHER, R142). -/
def execSendcmd43 (arg : Word) (s : State) : Host.Outcome State Fault Refusal := .next (sendCommand settings 43 arg s)

/-- SENDCMD_44 (class OTHER, R142). -/
def execSendcmd44 (arg : Word) (s : State) : Host.Outcome State Fault Refusal := .next (sendCommand settings 44 arg s)

/-- SENDCMD_45 (class OTHER, R142). -/
def execSendcmd45 (arg : Word) (s : State) : Host.Outcome State Fault Refusal := .next (sendCommand settings 45 arg s)

/-- SENDCMD_46 (class OTHER, R142). -/
def execSendcmd46 (arg : Word) (s : State) : Host.Outcome State Fault Refusal := .next (sendCommand settings 46 arg s)

/-- SENDCMD_47 (class OTHER, R142). -/
def execSendcmd47 (arg : Word) (s : State) : Host.Outcome State Fault Refusal := .next (sendCommand settings 47 arg s)

/-- SENDCMD_48 (class OTHER, R142). -/
def execSendcmd48 (arg : Word) (s : State) : Host.Outcome State Fault Refusal := .next (sendCommand settings 48 arg s)

/-- SENDCMD_49 (class OTHER, R142). -/
def execSendcmd49 (arg : Word) (s : State) : Host.Outcome State Fault Refusal := .next (sendCommand settings 49 arg s)

/-- SENDCMD_50 (class OTHER, R142). -/
def execSendcmd50 (arg : Word) (s : State) : Host.Outcome State Fault Refusal := .next (sendCommand settings 50 arg s)

/-- SENDCMD_51 (class APP_51, R140). -/
def execSendcmd51 (arg : Word) (s : State) : Host.Outcome State Fault Refusal := .next (sendCommand settings 51 arg s)

/-- SENDCMD_52 (class OTHER, R142). -/
def execSendcmd52 (arg : Word) (s : State) : Host.Outcome State Fault Refusal := .next (sendCommand settings 52 arg s)

/-- SENDCMD_53 (class OTHER, R142). -/
def execSendcmd53 (arg : Word) (s : State) : Host.Outcome State Fault Refusal := .next (sendCommand settings 53 arg s)

/-- SENDCMD_54 (class OTHER, R142). -/
def execSendcmd54 (arg : Word) (s : State) : Host.Outcome State Fault Refusal := .next (sendCommand settings 54 arg s)

/-- SENDCMD_55 (class APP_CMD, R141). -/
def execSendcmd55 (arg : Word) (s : State) : Host.Outcome State Fault Refusal := .next (sendCommand settings 55 arg s)

/-- SENDCMD_56 (class OTHER, R142). -/
def execSendcmd56 (arg : Word) (s : State) : Host.Outcome State Fault Refusal := .next (sendCommand settings 56 arg s)

/-- SENDCMD_57 (class OTHER, R142). -/
def execSendcmd57 (arg : Word) (s : State) : Host.Outcome State Fault Refusal := .next (sendCommand settings 57 arg s)

/-- SENDCMD_58 (class OTHER, R142). -/
def execSendcmd58 (arg : Word) (s : State) : Host.Outcome State Fault Refusal := .next (sendCommand settings 58 arg s)

/-- SENDCMD_59 (class OTHER, R142). -/
def execSendcmd59 (arg : Word) (s : State) : Host.Outcome State Fault Refusal := .next (sendCommand settings 59 arg s)

/-- SENDCMD_60 (class OTHER, R142). -/
def execSendcmd60 (arg : Word) (s : State) : Host.Outcome State Fault Refusal := .next (sendCommand settings 60 arg s)

/-- SENDCMD_61 (class OTHER, R142). -/
def execSendcmd61 (arg : Word) (s : State) : Host.Outcome State Fault Refusal := .next (sendCommand settings 61 arg s)

/-- SENDCMD_62 (class OTHER, R142). -/
def execSendcmd62 (arg : Word) (s : State) : Host.Outcome State Fault Refusal := .next (sendCommand settings 62 arg s)

/-- SENDCMD_63 (class OTHER, R142). -/
def execSendcmd63 (arg : Word) (s : State) : Host.Outcome State Fault Refusal := .next (sendCommand settings 63 arg s)

end Sys2Proof.Machine
end

