-- ==== Sys2Proof/Machine/HostSurface.lean ====
section
/-! DEFINITION. The five operations of the host surface (spec/43_host_surface.md R190 to R197). -/

namespace Sys2Proof.Machine

/-- CARD_PRESENT (43_host_surface.md R190): always true, no event. -/
def execCardp (s : State) : Host.Outcome State Fault Refusal := .next (s.deliver (Completion.of .success 1))

/-- READ_ONLY (43_host_surface.md R191): always false, no event. -/
def execRdonly (s : State) : Host.Outcome State Fault Refusal := .next (s.deliver (Completion.of .success 0))

/-- BUILD_DEVICE_PATH (43_host_surface.md R194): Success, no event, the descriptor a free value. -/
def execDevpath (s : State) : Host.Outcome State Fault Refusal :=
  .next ((s.addDraws 1).deliver { Completion.of .success 0 with devicePath := some (Config.devicePath s.draws) })

/-- NOTIFY_STATE (43_host_surface.md R192): the no-op; `state` is ignored. -/
def execNotify (_state : Word) (s : State) : Host.Outcome State Fault Refusal :=
  .next (s.deliver (Completion.of .success 0))

/-- The status of SET_BUS_PARAMETERS with an invalid width: a free choice of two (43_host_surface.md R196). -/
def badWidthStatus (draw : Nat) : Status := if Config.badWidthIsInvalid draw then .invalidArgument else .success

/-- SET_BUS_PARAMETERS: a valid width rewrites the width bits and the divider of the clock-control register (R195),
any other is logged and touches no register (R196); `clock` and `timing` are ignored (R197). -/
def setBus (cfg : Cfg) (width : Word) (s : State) : State :=
  match widthBits? cfg width with
  | some wbits =>
    let s1 := s.atRule 195
    finish .success ((s1.afterRead .clkcr).regWrite .clkcr (clkcrWord cfg (s1.answer .clkcr) wbits))
  | none => finish (badWidthStatus s.draws) (((s.atRule 196).addDraws 1).log (.badBusWidth width))

/-- SETBUS (43_host_surface.md R195 to R197). -/
def execSetbus (width _clock _timing : Word) (s : State) : Host.Outcome State Fault Refusal :=
  .next (setBus settings width s)

end Sys2Proof.Machine
end

