-- ==== Sys2Proof/Machine/Response.lean ====
section
/-! DEFINITION. RECEIVE_RESPONSE, the response decoder (spec/42_response_reader.md R180 to R186). -/

namespace Sys2Proof.Machine

/-- The four response registers in the order of a reader kind (42_response_reader.md R182, R183). -/
def responseOrder (kind : ReadKind) : List Reg :=
  match kind with
  | .long => [.resp4, .resp3, .resp2, .resp1]
  | .present | .busy | .r3 | .r6 | .r7 => [.resp1, .resp2, .resp3, .resp4]

/-- The address of word `j` of the output buffer: `out + 4*j` modulo 2^`ADDR_BITS` (20_memory.md R40, R42). -/
def wordAddress (cfg : Cfg) (out : Word) (j : Nat) : Word := BitVec.ofNat 32 (byteAddress cfg out (4 * j))

/-- Read each register of a list and write it to the next word of the buffer, from word `j` on
(42_response_reader.md R180, R186). -/
def copyResponse (cfg : Cfg) (out : Word) (regs : List Reg) (j : Nat) (s : State) : State :=
  match regs with
  | [] => s
  | r :: rest => copyResponse cfg out rest (j + 1) ((s.afterRead r).memWrite cfg (wordAddress cfg out j) (s.answer r))

/-- RECEIVE_RESPONSE (42_response_reader.md R180): a reserved kind first, then the null test
(60_exceptions.md R216). -/
def receiveResponse (cfg : Cfg) (code : BitVec 3) (out : Word) (s : State) : State :=
  match readKind? code with
  | none => usageFault .reservedEncoding s
  | some kind =>
    if out = 0 then s.deliver (Completion.of .invalidArgument 0)
    else finish .success (copyResponse cfg out (responseOrder kind) 0 (s.atRule 180))

/-- RECVRSP (42_response_reader.md R180). -/
def execRecvrsp (kind : BitVec 3) (out : Word) (s : State) : Host.Outcome State Fault Refusal :=
  .next (receiveResponse settings kind out s)

end Sys2Proof.Machine
end

