-- ==== Sys2Proof/Machine/Dispatch.lean ====
section
/-! DEFINITION. The meaning of each request, one arm for each constructor of Instr. -/

namespace Sys2Proof.Machine

def exec (i : Instr) (s : State) : Host.Outcome State Fault Refusal :=
  match i with
  | .cardp => Sys2Proof.Machine.execCardp s
  | .rdonly => Sys2Proof.Machine.execRdonly s
  | .devpath => Sys2Proof.Machine.execDevpath s
  | .notify state => Sys2Proof.Machine.execNotify state s
  | .setbus width clock timing => Sys2Proof.Machine.execSetbus width clock timing s
  | .sendcmd0 arg => Sys2Proof.Machine.execSendcmd0 arg s
  | .sendcmd1 arg => Sys2Proof.Machine.execSendcmd1 arg s
  | .sendcmd2 arg => Sys2Proof.Machine.execSendcmd2 arg s
  | .sendcmd3 arg => Sys2Proof.Machine.execSendcmd3 arg s
  | .sendcmd4 arg => Sys2Proof.Machine.execSendcmd4 arg s
  | .sendcmd5 arg => Sys2Proof.Machine.execSendcmd5 arg s
  | .sendcmd6 arg => Sys2Proof.Machine.execSendcmd6 arg s
  | .sendcmd7 arg => Sys2Proof.Machine.execSendcmd7 arg s
  | .sendcmd8 arg => Sys2Proof.Machine.execSendcmd8 arg s
  | .sendcmd9 arg => Sys2Proof.Machine.execSendcmd9 arg s
  | .sendcmd10 arg => Sys2Proof.Machine.execSendcmd10 arg s
  | .sendcmd11 arg => Sys2Proof.Machine.execSendcmd11 arg s
  | .sendcmd12 arg => Sys2Proof.Machine.execSendcmd12 arg s
  | .sendcmd13 arg => Sys2Proof.Machine.execSendcmd13 arg s
  | .sendcmd14 arg => Sys2Proof.Machine.execSendcmd14 arg s
  | .sendcmd15 arg => Sys2Proof.Machine.execSendcmd15 arg s
  | .sendcmd16 arg => Sys2Proof.Machine.execSendcmd16 arg s
  | .sendcmd17 arg => Sys2Proof.Machine.execSendcmd17 arg s
  | .sendcmd18 arg => Sys2Proof.Machine.execSendcmd18 arg s
  | .sendcmd19 arg => Sys2Proof.Machine.execSendcmd19 arg s
  | .sendcmd20 arg => Sys2Proof.Machine.execSendcmd20 arg s
  | .sendcmd21 arg => Sys2Proof.Machine.execSendcmd21 arg s
  | .sendcmd22 arg => Sys2Proof.Machine.execSendcmd22 arg s
  | .sendcmd23 arg => Sys2Proof.Machine.execSendcmd23 arg s
  | .sendcmd24 arg => Sys2Proof.Machine.execSendcmd24 arg s
  | .sendcmd25 arg => Sys2Proof.Machine.execSendcmd25 arg s
  | .sendcmd26 arg => Sys2Proof.Machine.execSendcmd26 arg s
  | .sendcmd27 arg => Sys2Proof.Machine.execSendcmd27 arg s
  | .sendcmd28 arg => Sys2Proof.Machine.execSendcmd28 arg s
  | .sendcmd29 arg => Sys2Proof.Machine.execSendcmd29 arg s
  | .sendcmd30 arg => Sys2Proof.Machine.execSendcmd30 arg s
  | .sendcmd31 arg => Sys2Proof.Machine.execSendcmd31 arg s
  | .sendcmd32 arg => Sys2Proof.Machine.execSendcmd32 arg s
  | .sendcmd33 arg => Sys2Proof.Machine.execSendcmd33 arg s
  | .sendcmd34 arg => Sys2Proof.Machine.execSendcmd34 arg s
  | .sendcmd35 arg => Sys2Proof.Machine.execSendcmd35 arg s
  | .sendcmd36 arg => Sys2Proof.Machine.execSendcmd36 arg s
  | .sendcmd37 arg => Sys2Proof.Machine.execSendcmd37 arg s
  | .sendcmd38 arg => Sys2Proof.Machine.execSendcmd38 arg s
  | .sendcmd39 arg => Sys2Proof.Machine.execSendcmd39 arg s
  | .sendcmd40 arg => Sys2Proof.Machine.execSendcmd40 arg s
  | .sendcmd41 arg => Sys2Proof.Machine.execSendcmd41 arg s
  | .sendcmd42 arg => Sys2Proof.Machine.execSendcmd42 arg s
  | .sendcmd43 arg => Sys2Proof.Machine.execSendcmd43 arg s
  | .sendcmd44 arg => Sys2Proof.Machine.execSendcmd44 arg s
  | .sendcmd45 arg => Sys2Proof.Machine.execSendcmd45 arg s
  | .sendcmd46 arg => Sys2Proof.Machine.execSendcmd46 arg s
  | .sendcmd47 arg => Sys2Proof.Machine.execSendcmd47 arg s
  | .sendcmd48 arg => Sys2Proof.Machine.execSendcmd48 arg s
  | .sendcmd49 arg => Sys2Proof.Machine.execSendcmd49 arg s
  | .sendcmd50 arg => Sys2Proof.Machine.execSendcmd50 arg s
  | .sendcmd51 arg => Sys2Proof.Machine.execSendcmd51 arg s
  | .sendcmd52 arg => Sys2Proof.Machine.execSendcmd52 arg s
  | .sendcmd53 arg => Sys2Proof.Machine.execSendcmd53 arg s
  | .sendcmd54 arg => Sys2Proof.Machine.execSendcmd54 arg s
  | .sendcmd55 arg => Sys2Proof.Machine.execSendcmd55 arg s
  | .sendcmd56 arg => Sys2Proof.Machine.execSendcmd56 arg s
  | .sendcmd57 arg => Sys2Proof.Machine.execSendcmd57 arg s
  | .sendcmd58 arg => Sys2Proof.Machine.execSendcmd58 arg s
  | .sendcmd59 arg => Sys2Proof.Machine.execSendcmd59 arg s
  | .sendcmd60 arg => Sys2Proof.Machine.execSendcmd60 arg s
  | .sendcmd61 arg => Sys2Proof.Machine.execSendcmd61 arg s
  | .sendcmd62 arg => Sys2Proof.Machine.execSendcmd62 arg s
  | .sendcmd63 arg => Sys2Proof.Machine.execSendcmd63 arg s
  | .recvrsp kind out => Sys2Proof.Machine.execRecvrsp kind out s
  | .rdblk address length buffer => Sys2Proof.Machine.execRdblk address length buffer s
  | .wrblk address length buffer => Sys2Proof.Machine.execWrblk address length buffer s

end Sys2Proof.Machine
end

