-- ==== Sys2Proof/Machine/Step.lean ====
section
/-! DEFINITION. One step: the upward port takes the next request and the block runs it to its completion
(spec/70_reset_and_hazards.md R246, R256). -/

namespace Sys2Proof.Machine

/-- A request taken from the port: decoded and run, or refused as a reserved encoding (30_encoding.md R63, R80). -/
def runRequest (req : Request) (s : State) : Host.Outcome State Fault Refusal :=
  match decode req with
  | .op i => exec i s
  | .reserved _ => .next (rejectRequest s)

/-- One step. With a request waiting and no operation in progress it is run to its completion. With none waiting the
block stays idle and keeps its registers (60_exceptions.md R226, 70_reset_and_hazards.md R240). Inside an operation
the port takes nothing: HOST's serialized use of it is an assumption (R246, log entry 16). -/
def step (s : State) : Host.Outcome State Fault Refusal :=
  match nextRequest s with
  | none => if s.seqStep = .none then .next s else .fault .insideOperation
  | some (req, s') => if s.seqStep = .none then runRequest req s' else .refused .portBusy

/-- `s` with the request of a table word as the next one HOST issues. -/
def State.withFetchWord (s : State) (nbits w : Nat) : State := presentRequest (tableRequest nbits w) s

end Sys2Proof.Machine
end

