-- ==== Sys2Proof/Safety.lean ====
section
/-! DEFINITION. What claims about runs are stated in: the invariant between operations, the accesses the register
table allows, and what a list of events asks of the controller (spec/10_state.md R16, R20, spec/70_reset_and_hazards.md
R252, R253). -/

namespace Sys2Proof.Machine

/-- Between operations (10_state.md R15, R16, R31): SEQ stands still, the phase is a function of the pending flag, the
latch holds a data-bearing command or 0, and memory is in its canonical form. -/
structure State.Inv (s : State) : Prop where
  seqStep : s.seqStep = .none
  seqIter : s.seqIter = 0
  phase : s.phase = if s.pending then .deferred else .idle
  cleared : s.pending = false → s.latchOpcode = 0 ∧ s.latchArg = 0
  latched : s.pending = true → dataBearing settings s.latchOpcode s.latchArg = true
  mem : Memory.wf s.mem

/-- The four groups of operations the register table tells apart (10_state.md R20). -/
inductive AccessGroup where
  /-- SEND_COMMAND: DISPATCH only. -/
  | command
  /-- READ_BLOCK: DISPATCH and CONFIGURE. -/
  | block
  | response
  | busParameters
  /-- The operations that access no register. -/
  | quiet
  deriving DecidableEq, Repr

/-- The group of an operation. -/
def accessGroup (i : Instr) : AccessGroup :=
  match i with
  | .cardp | .rdonly | .devpath | .notify _ | .wrblk _ _ _ => .quiet
  | .setbus _ _ _ => .busParameters
  | .recvrsp _ _ => .response
  | .rdblk _ _ _ => .block
  | .sendcmd0 _ | .sendcmd1 _ | .sendcmd2 _ | .sendcmd3 _ | .sendcmd4 _ | .sendcmd5 _ | .sendcmd6 _ | .sendcmd7 _
  | .sendcmd8 _ | .sendcmd9 _ | .sendcmd10 _ | .sendcmd11 _ | .sendcmd12 _ | .sendcmd13 _ | .sendcmd14 _ | .sendcmd15 _
  | .sendcmd16 _ | .sendcmd17 _ | .sendcmd18 _ | .sendcmd19 _ | .sendcmd20 _ | .sendcmd21 _ | .sendcmd22 _ | .sendcmd23 _
  | .sendcmd24 _ | .sendcmd25 _ | .sendcmd26 _ | .sendcmd27 _ | .sendcmd28 _ | .sendcmd29 _ | .sendcmd30 _ | .sendcmd31 _
  | .sendcmd32 _ | .sendcmd33 _ | .sendcmd34 _ | .sendcmd35 _ | .sendcmd36 _ | .sendcmd37 _ | .sendcmd38 _ | .sendcmd39 _
  | .sendcmd40 _ | .sendcmd41 _ | .sendcmd42 _ | .sendcmd43 _ | .sendcmd44 _ | .sendcmd45 _ | .sendcmd46 _ | .sendcmd47 _
  | .sendcmd48 _ | .sendcmd49 _ | .sendcmd50 _ | .sendcmd51 _ | .sendcmd52 _ | .sendcmd53 _ | .sendcmd54 _ | .sendcmd55 _
  | .sendcmd56 _ | .sendcmd57 _ | .sendcmd58 _ | .sendcmd59 _ | .sendcmd60 _ | .sendcmd61 _ | .sendcmd62 _ | .sendcmd63 _ => .command

/-- Column "block reads it" of the register table (10_state.md R20). -/
def mayRead (g : AccessGroup) (r : Reg) : Bool :=
  match r with
  | .cmd | .sta => g == .command || g == .block
  | .dctrl => g == .block
  | .resp1 | .resp2 | .resp3 | .resp4 => g == .response
  | .clkcr => g == .busParameters
  | .power | .arg | .dtimer | .dlen | .dcount | .icr | .mask | .idmactrl | .idmabase => false

/-- Column "block writes it" of the register table (10_state.md R20). -/
def mayWrite (g : AccessGroup) (r : Reg) : Bool :=
  match r with
  | .arg | .cmd | .icr | .dctrl => g == .command || g == .block
  | .dtimer | .dlen | .idmactrl | .idmabase => g == .block
  | .clkcr => g == .busParameters
  | .power | .resp1 | .resp2 | .resp3 | .resp4 | .dcount | .sta | .mask => false

/-- The events an operation of a group may perform: the register accesses of the table, delays in the operations that
poll, memory writes in the response reader only, cache requests in READ_BLOCK only (10_state.md R20, 20_memory.md R50,
R54, 70_reset_and_hazards.md R253, 60_exceptions.md R228). -/
def mayPerform (g : AccessGroup) (e : Event) : Bool :=
  match e with
  | .rd r _ => mayRead g r
  | .wr r _ => mayWrite g r
  | .dly => g == .command || g == .block
  | .cache _ _ => g == .block
  | .memWr _ _ => g == .response
  | .log (.commandError _ _) => g == .command || g == .block
  | .log (.setBlockLenFailed _) => g == .block
  | .log (.badBusWidth _) => g == .busParameters

/-- How many delays a list of events requests (70_reset_and_hazards.md R252). -/
def delays (evs : List Event) : Nat := evs.countP (· == .dly)

/-- The delay a list of events requests, in microseconds: the product the budgets are stated as
(70_reset_and_hazards.md R252). -/
def delayUs (cfg : Cfg) (evs : List Event) : Nat := delays evs * cfg.pollDelayUs

/-- The most delays an operation requests (70_reset_and_hazards.md R253). -/
def delayBound (g : AccessGroup) : Nat :=
  match g with
  | .command => 20
  | .block => 2040
  | .response | .busParameters | .quiet => 0

/-- The commands a list of events issues: each write of the argument register with the write of the command register
that follows it at once (40_command_dispatch.md R110). -/
def issued (evs : List Event) : List (Word × Word) :=
  match evs with
  | [] => []
  | [_] => []
  | e :: e' :: rest =>
    match e, e' with
    | .wr .arg a, .wr .cmd w => (a, w) :: issued (e' :: rest)
    | _, _ => issued (e' :: rest)

/-- The set-block-length failures a list of events logs (41_data_path.md R154, 60_exceptions.md R228). -/
def blockLengthFailures (evs : List Event) : List Status :=
  evs.filterMap fun e => match e with | .log (.setBlockLenFailed st) => some st | _ => none

/-- The words a list of events leaves in the controller's registers: the last written to each. -/
def lastWritten (evs : List Event) (regs : CtrlRegs) : CtrlRegs :=
  evs.foldl (fun c e => match e with | .wr r v => c.set r v | _ => c) regs

/-- The encodings that spell no operation (30_encoding.md R63). -/
def reservedEncoding (req : Request) : Bool :=
  decide (9 ≤ req.op.toNat) || (req.op == 5 && decide (64 ≤ req.a0.toNat)) || (req.op == 6 && decide (6 ≤ req.a0.toNat))

end Sys2Proof.Machine
end

