-- ==== Sys2Proof/Certificates/Slice0/Obligations.lean ====
section
/-! DEFINITION. The statements for the provers, each from the spec's rules. -/

open Sys2Proof Sys2Proof.Machine

/-! ### Reset, the invariant, the step -/

/-- 10_state.md section 7: the values the spec gives the block's registers at reset (the spec's own decision D38). -/
def Obligations.ResetBlockState : Prop :=
  State.reset.pending = false ∧ State.reset.nextIsAcmd = false ∧ State.reset.latchOpcode = 0 ∧
    State.reset.latchArg = 0 ∧ State.reset.phase = .idle ∧ State.reset.seqStep = .none ∧ State.reset.seqIter = 0

/-- 10_state.md section 2: the boundary invariant holds at reset. -/
def Obligations.ResetMeetsInvariant : Prop := State.reset.Inv

/-- 10_state.md section 2 (derived there from the rules of the latch): every step keeps the boundary invariant: SEQ
stands still, the phase is Deferred exactly when a command is pending, the latch is 0 or holds a data-bearing command,
memory is in its canonical form. -/
def Obligations.StepKeepsInvariant : Prop := ∀ s t : State, s.Inv → step s = .next t → t.Inv

/-- The model's convention (log entries 1 and 2, DESIGN CHOICE; the spec calls one event a step) over 20_memory.md
section 10 and 70_reset_and_hazards.md section 3: between operations one step takes the head of HOST's list of requests
and runs the whole operation it decodes to. -/
def Obligations.StepRunsTheNextRequest : Prop :=
  ∀ (s : State) (req : Request) (rest : List Request) (i : Instr), s.hostRequests = req :: rest → s.seqStep = .none →
    decode req = .op i → i.wellFormed = true → step s = exec i { s with hostRequests := rest }

/-- 30_encoding.md section 2 (decision D2): a request whose `op` is 9 to 15, a SEND_COMMAND with `a0` above 63 and a
RECEIVE_RESPONSE with `a0` above 5 complete with UsageFault(ReservedEncoding), no event, no other change. -/
def Obligations.ReservedRequestsCompleteWithUsageFault : Prop :=
  ∀ (s : State) (req : Request) (rest : List Request), s.hostRequests = req :: rest → s.seqStep = .none →
    (9 ≤ req.op.toNat ∨ (req.op = 5 ∧ 64 ≤ req.a0.toNat) ∨ (req.op = 6 ∧ 6 ≤ req.a0.toNat)) →
    step s = .next { s with hostRequests := rest, completion := some ⟨.usageFault, 0, some .reservedEncoding, none⟩ }

/-- 60_exceptions.md section 7, 70_reset_and_hazards.md sections 1 and 3 and log entries 2, 7 and 16: with nothing
requested the block waits unchanged; a state inside an operation takes no request. -/
def Obligations.StepWaitsOrStops : Prop :=
  ∀ s : State, (s.hostRequests = [] → s.seqStep = .none → step s = .next s) ∧
    (s.hostRequests = [] → s.seqStep ≠ .none → step s = .fault .insideOperation) ∧
    (s.hostRequests ≠ [] → s.seqStep ≠ .none → step s = .refused .portBusy)

/-! ### Encoding -/

/-- 30_encoding.md sections 2 and 9: a request that is not reserved spells a well-formed operation; its row of the
opcode table claims the header; encoding the operation gives back exactly the bits the operation reads. -/
def Obligations.UnreservedRequestsDecode : Prop :=
  ∀ req : Request, reservedEncoding req = false →
    ∃ i, decode req = .op i ∧ i.wellFormed = true ∧ i.row.claims req.header = true ∧ encode i = req &&& i.readBits

/-- 30_encoding.md sections 2, 8 and 9: decoding the request word of a well-formed operation gives the operation. -/
def Obligations.DecodeOfEncode : Prop := ∀ i : Instr, i.wellFormed = true → decode (encode i) = .op i

/-- 30_encoding.md section 9: no two rows of the opcode table claim one header, and exactly the headers with `op` 0 to
8 are claimed. -/
def Obligations.OpcodeRowsClaimEachHeaderOnce : Prop :=
  ∀ hdr : BitVec 10, opcodeRows.countP (·.claims hdr) = if (hdr.extractLsb' 0 4).toNat ≤ 8 then 1 else 0

/-- 95_test_vectors.md section 2.1, table E-1: request words and the operations they stand for. -/
def Obligations.SampleRequestWordsDecode : Prop :=
  decode 0x0000000000000000000000000 = .op .cardp ∧
  decode 0x0000000000000000000000033 = .op (.notify 3) ∧
  decode 0x00000000017D7840000000044 = .op (.setbus 4 25000000 0) ∧
  decode 0x0000000080FFFFF1000000065 = .op (.sendcmd6 0x80FFFFF1) ∧
  decode 0x0000000012340000000000375 = .op (.sendcmd55 0x12340000) ∧
  decode 0x00000000FFFFFFFF0000003F5 = .op (.sendcmd63 0xFFFFFFFF) ∧
  decode 0x0000000020002000000000056 = .op (.recvrsp 5 0x20002000) ∧
  decode 0x2000000000000200000012347 = .op (.rdblk 0x1234 512 0x20000000) ∧
  decode 0x2000000000000200000000008 = .op (.wrblk 0 512 0x20000000)

/-! ### The words the block assembles -/

/-- 30_encoding.md section 4: the five fields of a control word hold the index, the engine-enable bit, the transfer bit, the
stop bit and the wait code, and every other bit is 0. -/
def Obligations.ControlWordFields : Prop :=
  ∀ (idx : Idx) (kind : DescKind) (trans stop : Bool),
    let cw := controlWord settings idx kind trans stop
    cw.extractLsb' 0 6 = idx ∧ cw.getLsbD 12 = true ∧ cw.getLsbD 6 = trans ∧ cw.getLsbD 7 = stop ∧
      cw.extractLsb' 8 2 = waitCode settings kind ∧ cw.extractLsb' 10 2 = 0 ∧ cw.extractLsb' 13 19 = 0

/-- 30_encoding.md R69: for a clamped length `2^k` the word written to the data-control register has `k` in its size
field and every other bit as just read. -/
def Obligations.BlockSizeWord : Prop :=
  ∀ (k : Nat) (d : Word), k ≤ 9 →
    let w := dctrlWord settings d (blockExponent (1#32 <<< k))
    (w.extractLsb' 4 4).toNat = k ∧ w &&& 0xFFFFFF0F = d &&& 0xFFFFFF0F

/-- 41_data_path.md sections 1 and 3 (decision D30): the clamped length is the least of the length and 512, and it is
valid exactly when the length is a power of two below 512 or is at least 512. -/
def Obligations.ClampAndValidLengths : Prop :=
  ∀ len : Word, (clampLength settings len).toNat = min len.toNat 512 ∧
    (validLength (clampLength settings len) = true ↔ 512 ≤ len.toNat ∨ ∃ k ≤ 8, len.toNat = 2 ^ k)

/-- 30_encoding.md section 4 (bit positions: decision D14): the power-up bit is ORed in for index 1, the two voltage
window bits for index 41, and no other argument changes. -/
def Obligations.ArgumentAugmentation : Prop :=
  ∀ (idx : Idx) (arg : Word), augment settings idx arg =
    if idx = 1 then arg ||| 0x80000000 else if idx = 41 then arg ||| 0x00300000 else arg

/-- 95_test_vectors.md tables E-3 and E-5 and 40_command_dispatch.md section 4: control words and awaited masks of the
reference configuration. -/
def Obligations.ReferenceWords : Prop :=
  (∀ row ∈ [((0 : Idx), false, 0x00001000#32), (1, false, 0x00001201#32), (2, false, 0x00001302#32),
      (6, false, 0x00001106#32), (6, true, 0x00001146#32), (7, false, 0x00001107#32), (8, false, 0x00001108#32),
      (12, false, 0x0000118C#32), (13, false, 0x0000110D#32), (16, false, 0x00001110#32), (17, true, 0x00001151#32),
      (18, true, 0x00001152#32), (41, false, 0x00001229#32), (51, true, 0x00001173#32), (51, false, 0x00001133#32),
      (55, false, 0x00001137#32)],
    controlWord cfgRef row.1 (cfgRef.respKindOf row.1) row.2.1 (row.1 == cfgRef.idxStop) = row.2.2) ∧
  (∀ row ∈ [((0 : Idx), 0x84#32), (1, 0x44#32), (2, 0x44#32), (7, 0x45#32), (8, 0x45#32), (55, 0x45#32)],
    cmdMask cfgRef row.1 (cfgRef.respKindOf row.1) = row.2) ∧
  dataAll cfgRef = 0x0800053A

/-- 10_state.md section 6, 20_memory.md section 3: the port addresses of the seventeen registers are the base address
plus the offsets of the register table, which the spec marks as general knowledge (decision D6; log entry 6, PRESUMED);
each is a multiple of 4 and no two are equal. -/
def Obligations.RegisterAddressesAligned : Prop :=
  (∀ row ∈ [(Reg.power, 0x00#32), (.clkcr, 0x04), (.arg, 0x08), (.cmd, 0x0C), (.resp1, 0x14), (.resp2, 0x18),
      (.resp3, 0x1C), (.resp4, 0x20), (.dtimer, 0x24), (.dlen, 0x28), (.dctrl, 0x2C), (.dcount, 0x30), (.sta, 0x34),
      (.icr, 0x38), (.mask, 0x3C), (.idmactrl, 0x50), (.idmabase, 0x58)],
    regAddress settings row.1 = (Config.baseWord ++ 0#2) + row.2) ∧
  (∀ r : Reg, (regAddress settings r).toNat % 4 = 0) ∧
  ∀ q r : Reg, regAddress settings q = regAddress settings r → q = r

/-- 30_encoding.md section 3 and 60_exceptions.md section 1 (numbers: decisions D3, D37): the status codes. -/
def Obligations.StatusCodes : Prop :=
  [Status.success, .commandTimeout, .crcFailure, .dataTimeout, .dataCrcFailure, .fifoUnderrun, .fifoOverrun,
    .dmaTransferError, .invalidArgument, .usageFault].map Status.code = [0, 1, 2, 3, 4, 5, 6, 7, 8, 15]

/-! ### Deferral -/

/-- 40_command_dispatch.md sections 1 and 4 (what the deferral writes: decision D23): SENDCMD_17, SENDCMD_18 and
SENDCMD_51 with nothing latched are latched, perform no event and complete with Success. -/
def Obligations.ReadAndAppCommandsAreDeferred : Prop :=
  ∀ (arg : Word) (s : State), s.pending = false →
    exec (.sendcmd17 arg) s = .next { s with
      latchOpcode := 17, latchArg := arg, pending := true, phase := .deferred,
      completion := some ⟨.success, 0, none, none⟩ } ∧
    exec (.sendcmd18 arg) s = .next { s with
      latchOpcode := 18, latchArg := arg, pending := true, phase := .deferred,
      completion := some ⟨.success, 0, none, none⟩ } ∧
    exec (.sendcmd51 arg) s = .next { s with
      latchOpcode := 51, latchArg := arg, pending := true, phase := .deferred,
      completion := some ⟨.success, 0, none, none⟩ }

/-- 40_command_dispatch.md sections 1 and 4: SENDCMD_6 with nothing latched completes: when its argument is an inquiry
it is dispatched at once, its one command issued without the transfer bit, after it at most the one stop-transmission
of a cleanup, and the latch as it was; else it is deferred. Which arguments are inquiries the spec leaves open (log entry
6): the statement holds whichever are. -/
def Obligations.SwitchFunctionDefersOrDispatches : Prop :=
  ∀ (arg : Word) (s : State), s.pending = false → ∃ t, exec (.sendcmd6 arg) s = .next t ∧
    if Config.isInquiryArg arg then
      t.pending = false ∧ t.latchOpcode = s.latchOpcode ∧ t.latchArg = s.latchArg ∧ t.phase = s.phase ∧
        t.nextIsAcmd = false ∧ ∃ evs stops, t.trace = s.trace ++ evs ∧
          (stops = [] ∨ stops = [(0, controlWord settings 12 (Config.respKindOf 12) false true)]) ∧
          issued evs = (arg, controlWord settings 6 (Config.respKindOf 6) false false) :: stops
    else t = { s with
      latchOpcode := 6, latchArg := arg, pending := true, phase := .deferred,
      completion := some ⟨.success, 0, none, none⟩ }

/-- 40_command_dispatch.md section 1 (decision D24): a second data-bearing request while a command is latched completes
with UsageFault(DoubleLatch) and changes nothing else. -/
def Obligations.SecondDataCommandIsRefused : Prop :=
  ∀ (idx : Idx) (arg : Word) (s : State), s.pending = true → dataBearing settings idx arg = true →
    exec (Instr.sendcmd idx arg) s = .next { s with completion := some ⟨.usageFault, 0, some .doubleLatch, none⟩ }

/-! ### DISPATCH -/

/-- 40_command_dispatch.md R104: step 1 is one read of the command register and, only when the read shows the engine
enabled, one write of zero. -/
def Obligations.EngineDisable : Prop :=
  ∀ (cfg : Cfg) (s : State), (engineDisable cfg s).trace = s.trace ++ Event.rd .cmd (s.answer .cmd) ::
    (if (s.answer .cmd).getLsbD cfg.cmdEn then [Event.wr .cmd 0] else [])

/-- 40_command_dispatch.md section 2 (R108 and R110, and R109, which the spec marks as derived): the static-flag clear
is one write, always; the data-control clear follows it exactly when neither the transfer bit nor the marker is set; then
the command is issued by two writes in this order, always: the argument, then the control word. -/
def Obligations.IssueWritesArgumentThenControlWord : Prop :=
  ∀ (cfg : Cfg) (d : CommandDescriptor) (s : State), (issueCommand cfg d s).trace =
    s.trace ++ Event.wr .icr cfg.staticFlags :: (if d.trans || s.nextIsAcmd then [] else [Event.wr .dctrl 0]) ++
      [Event.wr .arg (augment cfg d.idx d.arg), .wr .cmd (controlWord cfg d.idx d.kind d.trans d.stop)]

/-- 40_command_dispatch.md section 2 (decision D15): a poll reads the status register, and delays after each miss; it
ends at the first snapshot with an awaited bit, or after its last iteration's delay with no further read. -/
def Obligations.PollReadsThenDelays : Prop :=
  ∀ (mask : Word) (iters : Nat) (s : State), 0 < iters → ∃ misses : List Word,
    let p := poll mask iters s
    (∀ v ∈ misses, v &&& mask = 0) ∧ p.state.seqIter = misses.length ∧
    (p.hit = true → misses.length < iters ∧ p.sta &&& mask ≠ 0 ∧
      p.state.trace = s.trace ++ (misses.flatMap fun v => [Event.rd .sta v, .dly]) ++ [Event.rd .sta p.sta]) ∧
    (p.hit = false → misses.length = iters ∧ misses.getLast? = some p.sta ∧
      p.state.trace = s.trace ++ misses.flatMap fun v => [Event.rd .sta v, .dly])

/-- 40_command_dispatch.md section 2 and 30_encoding.md section 5 (decisions D15, D16, D17, D22): the command phase
polls the awaited mask ten times at most and classifies the snapshot the poll returns: CommandTimeout without a hit or
with the timeout bit set, else CrcFailure if the crc bit is set and the kind checks a crc, else Success. It logs the
error, but no timeout of indices 1, 8 and 13. When the answers are fewer than ten snapshots that miss the mask and one
that meets it, those are the reads, with a delay after each miss. -/
def Obligations.CommandPhaseClassifies : Prop :=
  ∀ (d : CommandDescriptor) (s : State),
    let mask := cmdMask settings d.idx d.kind
    let classify (sta : Word) : Status := if sta.getLsbD 2 then .commandTimeout
      else if d.idx ≠ 0 ∧ (d.kind = .short ∨ d.kind = .busy) ∧ sta.getLsbD 0 = true then .crcFailure else .success
    let logs (st : Status) : List Event :=
      if st = .success ∨ (st = .commandTimeout ∧ (d.idx = 1 ∨ d.idx = 8 ∨ d.idx = 13)) then []
      else [Event.log (.commandError st d.idx)]
    let p := poll mask 10 (s.atRule 111)
    let c := commandPhase settings d s
    c.status = (if p.hit then classify p.sta else .commandTimeout) ∧ c.state.trace = p.state.trace ++ logs c.status ∧
    ∀ (misses rest : List Word) (sta : Word), s.ctrlAnswers = misses ++ sta :: rest → misses.length < 10 →
      (∀ v ∈ misses, v &&& mask = 0) → sta &&& mask ≠ 0 →
      c.status = classify sta ∧ c.state.ctrlAnswers = rest ∧ c.state.trace =
        s.trace ++ (misses.flatMap fun v => [Event.rd .sta v, .dly]) ++ Event.rd .sta sta :: logs (classify sta)

/-- 40_command_dispatch.md sections 2 and 4: any command that is not data-bearing, when the first status snapshot shows
the done bit its index awaits (command-sent for index 0, else command-complete) and neither timeout nor crc-fail: the
whole next state, with the seven to eight events of 40_command_dispatch.md section 1's example. -/
def Obligations.CommandSucceedsOnFirstPoll : Prop :=
  ∀ (idx : Idx) (arg : Word) (s : State) (c sta : Word) (rest : List Word),
    dataBearing settings idx arg = false → s.ctrlAnswers = c :: sta :: rest →
    sta.getLsbD 2 = false → sta.getLsbD 0 = false → sta.getLsbD (if idx = 0 then 7 else 6) = true →
    let disable : List Event := if c.getLsbD 12 then [Event.wr .cmd 0] else []
    let clear : List Event := if idx = 55 then [] else [Event.wr .dctrl 0]
    let issue : List Event := [Event.wr .arg (augment settings idx arg),
      .wr .cmd (controlWord settings idx (Config.respKindOf idx) false (idx == 12))]
    exec (Instr.sendcmd idx arg) s = .next { s with
      nextIsAcmd := idx == 55
      seqStep := .none
      seqIter := 0
      ctrl := { s.ctrl with
        icr := 0x080005FF
        dctrl := if idx = 55 then s.ctrl.dctrl else 0
        arg := augment settings idx arg
        cmd := controlWord settings idx (Config.respKindOf idx) false (idx == 12) }
      ctrlAnswers := rest
      trace := s.trace ++ Event.rd .cmd c :: disable ++ Event.wr .icr 0x080005FF :: clear ++ issue ++
        Event.rd .sta sta :: .wr .icr 0x080005FF :: []
      completion := some ⟨.success, 0, none, none⟩ }

/-- 40_command_dispatch.md section 2, 70_reset_and_hazards.md section 4: a status register that shows none of the
command bits in ten reads gives CommandTimeout after ten delays, through the exit path of step 12, and with the data
path not active no cleanup: the whole next state. -/
def Obligations.CommandTimesOutAfterTenPolls : Prop :=
  ∀ (idx : Idx) (arg : Word) (s : State) (c c2 st : Word) (polls rest : List Word),
    dataBearing settings idx arg = false → s.ctrlAnswers = c :: (polls ++ c2 :: st :: rest) → polls.length = 10 →
    (∀ v ∈ polls, v &&& 0xC5 = 0) → st.getLsbD 12 = false →
    let disable : List Event := if c.getLsbD 12 then [Event.wr .cmd 0] else []
    let clear : List Event := if idx = 55 then [] else [Event.wr .dctrl 0]
    let issue : List Event := [Event.wr .arg (augment settings idx arg),
      .wr .cmd (controlWord settings idx (Config.respKindOf idx) false (idx == 12))]
    let misses : List Event := polls.flatMap fun v => [Event.rd .sta v, .dly]
    let log : List Event := if idx = 1 ∨ idx = 8 ∨ idx = 13 then [] else [Event.log (.commandError .commandTimeout idx)]
    exec (Instr.sendcmd idx arg) s = .next { s with
      nextIsAcmd := idx == 55
      seqStep := .none
      seqIter := 0
      ctrl := { s.ctrl with
        icr := 0x080005FF
        dctrl := if idx = 55 then s.ctrl.dctrl else 0
        arg := augment settings idx arg
        cmd := c2 &&& 0xFFFFFFBF }
      ctrlAnswers := rest
      trace := s.trace ++ Event.rd .cmd c :: disable ++ Event.wr .icr 0x080005FF :: clear ++ issue ++ misses ++ log ++
        Event.wr .icr 0x080005FF :: .rd .cmd c2 :: .wr .cmd (c2 &&& 0xFFFFFFBF) :: .rd .sta st :: []
      completion := some ⟨.commandTimeout, 0, none, none⟩ }

/-- 40_command_dispatch.md section 1: whatever CTRL answers, a command that is not data-bearing completes with Success,
CommandTimeout or CrcFailure and leaves the latch as it is, also while a command is pending. -/
def Obligations.DispatchedCommandCompletes : Prop :=
  ∀ (idx : Idx) (arg : Word) (s : State), dataBearing settings idx arg = false →
    ∃ t st, exec (Instr.sendcmd idx arg) s = .next t ∧ t.completion = some ⟨st, 0, none, none⟩ ∧
      (st = .success ∨ st = .commandTimeout ∨ st = .crcFailure) ∧ t.latchOpcode = s.latchOpcode ∧
      t.latchArg = s.latchArg ∧ t.pending = s.pending ∧ t.phase = s.phase ∧ t.seqStep = .none ∧ t.seqIter = 0

/-- 40_command_dispatch.md section 2 (decision D21), 95_test_vectors.md T6: every top-level DISPATCH, the one of
SEND_COMMAND and the two inside READ_BLOCK, issues its command once, and the stop-transmission exactly once more when
the command failed and the status read after step 12 still shows the data path active, not otherwise. A SEND_COMMAND
that is not data-bearing issues what its DISPATCH issues. -/
def Obligations.StopIsIssuedOnceOnError : Prop :=
  ∀ (idx : Idx) (arg : Word) (s : State),
    let r := dispatchBody settings idx arg s
    let commands (trans : Bool) : List (Word × Word) :=
      (augment settings idx arg, controlWord settings idx (Config.respKindOf idx) trans (idx == 12)) ::
        (if r.status ≠ .success ∧ (r.state.answer .sta).getLsbD 12 = true
         then [(0, controlWord settings 12 (Config.respKindOf 12) false true)] else [])
    (∃ evs, (dispatch settings idx arg true s).state.trace = s.trace ++ evs ∧
      issued evs = commands (describe settings idx arg s.nextIsAcmd).trans) ∧
    (dataBearing settings idx arg = false → ∃ t evs, exec (Instr.sendcmd idx arg) s = .next t ∧
      t.trace = s.trace ++ evs ∧ issued evs = commands false)

/-- 40_command_dispatch.md section 2 (decision D21): after an error with the data path active every top-level DISPATCH,
also one inside READ_BLOCK, reports the error of the stop-transmission if that fails, else the original error, and
leaves the marker 0; a SEND_COMMAND that is not data-bearing completes with that status. -/
def Obligations.FailedCleanupOverrides : Prop :=
  ∀ (idx : Idx) (arg : Word) (s : State),
    let r := dispatchBody settings idx arg s
    let q := dispatchBody settings 12 0 ((r.state.atRule 118).afterRead .sta)
    let out := dispatch settings idx arg true s
    let st := if q.status = .success then r.status else q.status
    r.status ≠ .success → (r.state.answer .sta).getLsbD 12 = true →
    out.status = st ∧ out.state.nextIsAcmd = false ∧
    (dataBearing settings idx arg = false → ∃ t, exec (Instr.sendcmd idx arg) s = .next t ∧
      t.completion = some ⟨st, 0, none, none⟩ ∧ t.nextIsAcmd = false)

/-- 40_command_dispatch.md section 2, 60_exceptions.md sections 1 and 3: the status of every top-level DISPATCH is the
one its command phase classified, or, after a Success with the transfer bit set, the one its data phase classified;
only the error of a failed cleanup replaces it. The exit is the quiet one of step 10 after a Success without data, the
exit path of step 12 otherwise, and step 13 after an error. A SEND_COMMAND that is not data-bearing completes with the
status of its DISPATCH (READ_BLOCK with the one of its replay: ReadBlockCompletes). -/
def Obligations.DispatchReportsItsPhases : Prop :=
  ∀ (idx : Idx) (arg : Word) (s : State),
    let d := describe settings idx arg s.nextIsAcmd
    let command := commandPhase settings d
      (issueCommand settings d (updateMarker settings idx (engineDisable settings s)))
    let phase := if command.status = .success ∧ d.trans = true then dataPhase settings d command.state else command
    let left := exitPath settings phase.state
    let active : Bool := phase.status != .success && (left.answer .sta).getLsbD 12
    let stop := dispatch settings 12 0 false ((left.atRule 118).afterRead .sta)
    let out := dispatch settings idx arg true s
    out.status = (if active = true ∧ stop.status ≠ .success then stop.status else phase.status) ∧
    out.state = (if phase.status = .success then (if d.trans then left else quietExit settings command.state)
      else if active then stop.state else (left.atRule 118).afterRead .sta) ∧
    (dataBearing settings idx arg = false → ∃ t, exec (Instr.sendcmd idx arg) s = .next t ∧
      t.completion = some ⟨out.status, 0, none, none⟩ ∧ t.trace = out.state.trace)

/-- 40_command_dispatch.md section 2: every nested DISPATCH leaves the marker set exactly for index 55; a top-level one
too, unless its cleanup dispatched the stop-transmission, which clears it. -/
def Obligations.MarkerAfterDispatch : Prop :=
  ∀ (idx : Idx) (arg : Word) (s : State),
    (dispatch settings idx arg false s).state.nextIsAcmd = (idx == 55) ∧
    (dispatch settings idx arg true s).state.nextIsAcmd =
      (idx == 55 && !((dispatchBody settings idx arg s).status != .success &&
        ((dispatchBody settings idx arg s).state.answer .sta).getLsbD 12))

/-- Frame of SENDCMD_0 to SENDCMD_63 (10_state.md section 6, 40_command_dispatch.md sections 1 and 2): memory, the
waiting requests and every controller register but ARG, CMD, ICR and DCTRL are unchanged; a dispatched command leaves
the latch and the phase; a data-bearing one leaves the marker, every controller register and the trace. -/
def Obligations.SendCommandFrame : Prop :=
  ∀ (idx : Idx) (arg : Word) (s t : State), exec (Instr.sendcmd idx arg) s = .next t →
    t.hostRequests = s.hostRequests ∧ (∀ a, Memory.read t.mem a = Memory.read s.mem a) ∧
    (∀ r, r ≠ .arg → r ≠ .cmd → r ≠ .icr → r ≠ .dctrl → t.ctrl.get r = s.ctrl.get r) ∧
    (dataBearing settings idx arg = false → t.latchOpcode = s.latchOpcode ∧ t.latchArg = s.latchArg ∧
      t.pending = s.pending ∧ t.phase = s.phase) ∧
    (dataBearing settings idx arg = true → t.nextIsAcmd = s.nextIsAcmd ∧ t.ctrl = s.ctrl ∧ t.trace = s.trace)

/-- 40_command_dispatch.md section 2 (decision D19) and 70_reset_and_hazards.md section 4: a data phase whose every
status read misses its mask ends in DataTimeout after the full budget of reads and delays, and logs it. The machine's
budgets are 10 command and 2000 data iterations of 1000 microseconds each. -/
def Obligations.DataPhaseTimesOut : Prop :=
  (settings.cmdPollIters = 10 ∧ settings.dataPollIters = 2000 ∧ settings.pollDelayUs = 1000) ∧
  ∀ (cfg : Cfg) (d : CommandDescriptor) (s : State) (polls rest : List Word), s.ctrlAnswers = polls ++ rest →
    polls.length = cfg.dataPollIters → (∀ v ∈ polls, v &&& dataMask cfg d.idx = 0) →
    (dataPhase cfg d s).status = .dataTimeout ∧ (dataPhase cfg d s).state.ctrlAnswers = rest ∧
    (dataPhase cfg d s).state.trace = s.trace ++ (polls.flatMap fun v => [Event.rd .sta v, .dly]) ++
      [Event.log (.commandError .dataTimeout d.idx)]

/-- 40_command_dispatch.md section 2 (decision D19) and 30_encoding.md section 5: whatever the awaited mask, a data
snapshot is a Success exactly when no awaited error bit is set in it, whatever done bits are; with an error bit the
first in the spec's order is reported. The mask of an index, which the spec leaves open, has only the seven data bits. -/
def Obligations.DataErrorsWinOverDone : Prop :=
  (∀ mask sta : Word,
    let m := sta &&& mask
    (classifyData settings mask true sta = .success ↔ m &&& 0x0800003A = 0) ∧
    (m.getLsbD 1 = true → classifyData settings mask true sta = .dataCrcFailure) ∧
    (m &&& 0x2 = 0 → m.getLsbD 3 = true → classifyData settings mask true sta = .dataTimeout) ∧
    (m &&& 0xA = 0 → m.getLsbD 4 = true → classifyData settings mask true sta = .fifoUnderrun) ∧
    (m &&& 0x1A = 0 → m.getLsbD 5 = true → classifyData settings mask true sta = .fifoOverrun) ∧
    (m &&& 0x3A = 0 → m.getLsbD 27 = true → classifyData settings mask true sta = .dmaTransferError)) ∧
  ∀ idx : Idx, dataMask settings idx &&& 0xF7FFFAC5 = 0

/-! ### The response reader -/

/-- 42_response_reader.md R182, the mapping: for the kinds present, busy, R3, R6 and R7 word 0 comes from register 1 up
to word 3 from register 4. That reads and writes alternate is R186 (decision D34), that null is 0 is decision D33, and the
bytes of a word over the top of memory are the model's (log entry 9, DEDUCED); the whole next state. -/
def Obligations.ShortResponsesInRegisterOrder : Prop :=
  ∀ (kind : BitVec 3) (out : Word) (s : State) (w1 w2 w3 w4 : Word) (rest : List Word), kind.toNat ≤ 4 → out ≠ 0 →
    s.ctrlAnswers = w1 :: w2 :: w3 :: w4 :: rest →
    exec (.recvrsp kind out) s = .next { s with
      seqStep := .none
      seqIter := 0
      mem := Memory.writeWord settings (Memory.writeWord settings (Memory.writeWord settings (Memory.writeWord settings
        s.mem out w1) (out + 4) w2)
        (out + 8) w3) (out + 12) w4
      ctrlAnswers := rest
      trace := s.trace ++ [Event.rd .resp1 w1, .memWr out w1, .rd .resp2 w2, .memWr (out + 4) w2, .rd .resp3 w3,
        .memWr (out + 8) w3, .rd .resp4 w4, .memWr (out + 12) w4]
      completion := some ⟨.success, 0, none, none⟩ }

/-- 42_response_reader.md R183, the mapping: for the long kind it is reversed. That reads and writes alternate is R186
(decision D34), that null is 0 is decision D33, and the bytes of a word over the top of memory are the model's (log
entry 9, DEDUCED); the whole next state. -/
def Obligations.LongResponseInReverseOrder : Prop :=
  ∀ (out : Word) (s : State) (w4 w3 w2 w1 : Word) (rest : List Word), out ≠ 0 →
    s.ctrlAnswers = w4 :: w3 :: w2 :: w1 :: rest →
    exec (.recvrsp 5 out) s = .next { s with
      seqStep := .none
      seqIter := 0
      mem := Memory.writeWord settings (Memory.writeWord settings (Memory.writeWord settings (Memory.writeWord settings
        s.mem out w4) (out + 4) w3)
        (out + 8) w2) (out + 12) w1
      ctrlAnswers := rest
      trace := s.trace ++ [Event.rd .resp4 w4, .memWr out w4, .rd .resp3 w3, .memWr (out + 4) w3, .rd .resp2 w2,
        .memWr (out + 8) w2, .rd .resp1 w1, .memWr (out + 12) w1]
      completion := some ⟨.success, 0, none, none⟩ }

/-- 42_response_reader.md section of the null buffer (null is the number 0: decision D33): a null buffer fails with
InvalidArgument and performs no event. -/
def Obligations.NullBufferFailsSilently : Prop :=
  ∀ (kind : BitVec 3) (s : State), kind.toNat ≤ 5 →
    exec (.recvrsp kind 0) s = .next { s with completion := some ⟨.invalidArgument, 0, none, none⟩ }

/-- 30_encoding.md sections 2 and 6, 60_exceptions.md section 3: a reserved reader kind is refused before the null
test. -/
def Obligations.ReservedReaderKindIsRefused : Prop :=
  ∀ (kind : BitVec 3) (out : Word) (s : State), 6 ≤ kind.toNat →
    exec (.recvrsp kind out) s = .next { s with completion := some ⟨.usageFault, 0, some .reservedEncoding, none⟩ }

/-- 42_response_reader.md (order of events: decision D34), 20_memory.md sections 2, 4 and 11; the byte addresses of a
word over the top of memory are the model's inference (log entry 9, DEDUCED, unsafe): whatever CTRL answers, RECVRSP
completes with Success; it reads four words, each from the next register of its kind's order, and writes each to the
next word of the buffer; byte `k` of word `j` of the buffer then reads as byte `k` of the word read for it, every
address outside the sixteen bytes reads as before, and the block's registers and the words written to CTRL are
unchanged. -/
def Obligations.ResponseReaderEffectAndFrame : Prop :=
  ∀ (kind : BitVec 3) (out : Word) (s : State), kind.toNat ≤ 5 → out ≠ 0 →
    let pick (short long : Reg) : Reg := if kind = 5 then long else short
    ∃ (t : State) (w1 w2 w3 w4 : Word), exec (.recvrsp kind out) s = .next t ∧
      t.completion = some ⟨.success, 0, none, none⟩ ∧
      t.trace = s.trace ++ [Event.rd (pick .resp1 .resp4) w1, .memWr out w1, .rd (pick .resp2 .resp3) w2,
        .memWr (out + 4) w2, .rd (pick .resp3 .resp2) w3, .memWr (out + 8) w3, .rd (pick .resp4 .resp1) w4,
        .memWr (out + 12) w4] ∧
      (∀ j w, [w1, w2, w3, w4][j]? = some w → ∀ k < 4,
        Memory.read t.mem (byteAddress settings (wordAddress settings out j) k) = some (byteOf w k)) ∧
      (∀ a, (∀ j < 4, ∀ k < 4, a ≠ byteAddress settings (wordAddress settings out j) k) →
        Memory.read t.mem a = Memory.read s.mem a) ∧
      t.latchOpcode = s.latchOpcode ∧ t.latchArg = s.latchArg ∧ t.pending = s.pending ∧
      t.nextIsAcmd = s.nextIsAcmd ∧ t.phase = s.phase ∧ t.ctrl = s.ctrl ∧ t.hostRequests = s.hostRequests

/-! ### Block transfers -/

/-- 41_data_path.md section 2 (decision D26): READ_BLOCK with nothing latched completes with
UsageFault(NoLatchedCommand) and changes nothing else. -/
def Obligations.ReadBlockNeedsALatchedCommand : Prop :=
  ∀ (address length buffer : Word) (s : State), s.pending = false →
    exec (.rdblk address length buffer) s =
      .next { s with completion := some ⟨.usageFault, 0, some .noLatchedCommand, none⟩ }

/-- 41_data_path.md section 1 (decision D30): a length below 512 that is no power of two completes with
UsageFault(BadLength), no event, the latch unchanged. -/
def Obligations.ReadBlockRefusesBadLength : Prop :=
  ∀ (address length buffer : Word) (s : State), s.pending = true → length.toNat < 512 →
    (∀ k ≤ 8, length.toNat ≠ 2 ^ k) →
    exec (.rdblk address length buffer) s =
      .next { s with completion := some ⟨.usageFault, 0, some .badLength, none⟩ }

/-- 41_data_path.md sections 1 and 2 (decisions D25, D28, D31, D32), 60_exceptions.md sections 1 and 3: with a command
latched and a good length READ_BLOCK completes whatever CTRL answers. Its status is the one of the replay, the DISPATCH of
the latched command on the configured state (no InvalidArgument, no UsageFault). A failure of the set-block-length
DISPATCH is logged once and never becomes the status: the data registers are programmed all the same. The latch is
cleared; the cache requests over the clamped length are its first and its last event. -/
def Obligations.ReadBlockCompletes : Prop :=
  ∀ (address length buffer : Word) (s : State), s.pending = true →
    (512 ≤ length.toNat ∨ ∃ k ≤ 8, length.toNat = 2 ^ k) →
    let n := clampLength settings length
    let blockLength := dispatch settings 16 n true ((s.atRule 153).cacheWbInv buffer n)
    let configured := configure settings (transferOf settings buffer length) s
    let replayed := dispatch settings s.latchOpcode s.latchArg true
      (((configured.atRule 160).setPhase .armed).setPhase .executing)
    ∃ t evs, exec (.rdblk address length buffer) s = .next t ∧
      t.completion = some ⟨replayed.status, 0, none, none⟩ ∧ replayed.status ≠ .invalidArgument ∧
      replayed.status ≠ .usageFault ∧ t.pending = false ∧ t.latchOpcode = 0 ∧ t.latchArg = 0 ∧ t.phase = .idle ∧
      t.seqStep = .none ∧ t.seqIter = 0 ∧ t.ctrl.dtimer = 0xFFFFFFFF ∧ t.ctrl.dlen.toNat = min length.toNat 512 ∧
      t.ctrl.idmabase = buffer ∧ t.ctrl.idmactrl = 1 ∧
      t.trace = s.trace ++ [Event.cache buffer n] ++ evs ++ [Event.cache buffer n] ∧
      blockLengthFailures evs = if blockLength.status = .success then [] else [blockLength.status]

/-- 10_state.md R29 and 41_data_path.md section 1 (order and forms: decision D32): the data timeout is written with the
maximum value and the length register with the clamped length, both whole and with no read; then the DMA base, the
size field by a read-modify-write, and the DMA enable. -/
def Obligations.DataRegistersAreProgrammed : Prop :=
  ∀ (buffer length d : Word) (s : State) (rest : List Word), s.ctrlAnswers = d :: rest →
    let n := clampLength settings length
    (programTransfer settings (transferOf settings buffer length) s).trace = s.trace ++ [Event.wr .dtimer 0xFFFFFFFF,
      .wr .dlen n, .wr .idmabase buffer, .rd .dctrl d, .wr .dctrl (dctrlWord settings d (blockExponent n)),
      .wr .idmactrl 1]

/-- 41_data_path.md section 2 (the fixed sequence: set block length, arm, issue the deferred command),
40_command_dispatch.md section 2 (decision D21) and 70_reset_and_hazards.md section 3 (the marker is never set at
replay): READ_BLOCK issues set-block-length with the clamped length, then the latched command with its transfer bit set,
each followed by exactly one stop-transmission when it failed with the data path still active, by none otherwise, and
leaves the marker 0. -/
def Obligations.ReadBlockIssuesTheLatchedCommand : Prop :=
  ∀ (address length buffer : Word) (s : State), s.Inv → s.pending = true →
    (512 ≤ length.toNat ∨ ∃ k ≤ 8, length.toNat = 2 ^ k) →
    let n := clampLength settings length
    let blockLength := dispatchBody settings 16 n ((s.atRule 153).cacheWbInv buffer n)
    let configured := configure settings (transferOf settings buffer length) s
    let replayed := dispatchBody settings s.latchOpcode s.latchArg
      (((configured.atRule 160).setPhase .armed).setPhase .executing)
    let stops (r : Result) : List (Word × Word) :=
      if r.status ≠ .success ∧ (r.state.answer .sta).getLsbD 12 = true
      then [(0, controlWord settings 12 (Config.respKindOf 12) false true)] else []
    ∃ t evs, exec (.rdblk address length buffer) s = .next t ∧ t.trace = s.trace ++ evs ∧ t.nextIsAcmd = false ∧
      issued evs =
        ((n, controlWord settings 16 (Config.respKindOf 16) false false) :: stops blockLength) ++
        ((s.latchArg, controlWord settings s.latchOpcode (Config.respKindOf s.latchOpcode) true false) :: stops replayed)

/-- Frame of RDBLK (10_state.md section 6, 20_memory.md section 11, 41_data_path.md section 2): the waiting requests
and every controller register the table does not let READ_BLOCK write are unchanged. So is every byte outside the armed
range, which wraps at the top of memory: that IDMA writes only inside it is the model's assumption on the environment (log
entry 8, DESIGN CHOICE, unsafe). -/
def Obligations.ReadBlockFrame : Prop :=
  ∀ (address length buffer : Word) (s t : State), exec (.rdblk address length buffer) s = .next t →
    t.hostRequests = s.hostRequests ∧
    (∀ a, (∀ k < (clampLength settings length).toNat, a ≠ byteAddress settings buffer k) →
      Memory.read t.mem a = Memory.read s.mem a) ∧
    (∀ r, r ∉ [Reg.arg, .cmd, .icr, .dctrl, .dtimer, .dlen, .idmactrl, .idmabase] → t.ctrl.get r = s.ctrl.get r)

/-- 41_data_path.md section 2 and 95_test_vectors.md vector B-1, in the reference configuration: a READ_BLOCK whose
three polls hit at their first read, the last with a done bit and no error bit: the whole trace, Success, the latch
cleared. -/
def Obligations.ReferenceReadBlockSuccess : Prop :=
  ∀ (length buffer : Word) (s : State) (c1 sta1 d c2 sta2 data c3 : Word) (rest : List Word), s.pending = true →
    dataBearing cfgRef s.latchOpcode s.latchArg = true → validLength (clampLength cfgRef length) = true →
    s.ctrlAnswers = c1 :: sta1 :: d :: c2 :: sta2 :: data :: c3 :: rest →
    sta1 &&& 0x45 = 0x40 → sta2 &&& 0x45 = 0x40 → data &&& 0x500 ≠ 0 → data &&& 0x0800003A = 0 →
    let n := clampLength cfgRef length
    let t := readBlock cfgRef length buffer s
    let disable (c : Word) : List Event := if c.getLsbD 12 then [Event.wr .cmd 0] else []
    let blockLength : List Event := .wr .icr 0x080005FF :: .wr .dctrl 0 :: .wr .arg n :: .wr .cmd 0x00001110 ::
      .rd .sta sta1 :: .wr .icr 0x080005FF :: []
    let registers : List Event := .wr .dtimer 0xFFFFFFFF :: .wr .dlen n :: .wr .idmabase buffer :: .rd .dctrl d ::
      .wr .dctrl (dctrlWord cfgRef d (blockExponent n)) :: .wr .idmactrl 1 :: []
    let command : List Event := .wr .icr 0x080005FF :: .wr .arg s.latchArg ::
      .wr .cmd (s.latchOpcode.setWidth 32 ||| 0x00001140) :: .rd .sta sta2 :: .rd .sta data :: .wr .icr 0x080005FF ::
      .rd .cmd c3 :: .wr .cmd (c3 &&& 0xFFFFFFBF) :: []
    t.completion = some ⟨.success, 0, none, none⟩ ∧ t.pending = false ∧ t.ctrlAnswers = rest ∧
    t.trace = s.trace ++ Event.cache buffer n :: .rd .cmd c1 :: disable c1 ++ blockLength ++ registers ++
      Event.rd .cmd c2 :: disable c2 ++ command ++ Event.cache buffer n :: []

/-- 41_data_path.md section 2, 40_command_dispatch.md section 2 (decisions D19, D20, D21), 60_exceptions.md section 1,
95_test_vectors.md vectors B-4, B-8 and B-9: a READ_BLOCK whose replay fails in its data phase completes with the
classified data error, DataTimeout when 2000 snapshots miss the mask, else the error of the first snapshot that meets
it. It logs the error, leaves through the exit path, issues the stop-transmission when the data path is still active
(here one that succeeds), clears the latch and requests the second cache maintenance: the whole trace. It holds for
every table of data flags, which the spec leaves open; with the machine's own it is what exec does. -/
def Obligations.ReadBlockReportsDataErrors : Prop :=
  ∀ (address length buffer : Word) (s : State) (flags : Idx → Word) (c1 sta1 d c2 sta2 c3 sta3 : Word)
    (misses rest : List Word) (last : Option Word) (stop : Option (Word × Word)), s.pending = true →
    dataBearing settings s.latchOpcode s.latchArg = true → (512 ≤ length.toNat ∨ ∃ k ≤ 8, length.toNat = 2 ^ k) →
    s.ctrlAnswers = c1 :: sta1 :: d :: c2 :: sta2 :: (misses ++ last.toList ++ c3 :: sta3 ::
      ((stop.toList.flatMap fun p => [p.1, p.2]) ++ rest)) →
    sta1 &&& 0x45 = 0x40 → sta2 &&& 0x45 = 0x40 →
    let mask := flags s.latchOpcode &&& 0x0800053A
    (∀ v ∈ misses, v &&& mask = 0) → (last = none → misses.length = 2000) →
    (∀ v, last = some v → misses.length < 2000 ∧ v &&& mask &&& 0x0800003A ≠ 0) →
    sta3.getLsbD 12 = stop.isSome → (∀ p, stop = some p → p.2 &&& 0x45 = 0x40) →
    let err : Status := match last with
      | none => .dataTimeout
      | some v => if (v &&& mask).getLsbD 1 then .dataCrcFailure else if (v &&& mask).getLsbD 3 then .dataTimeout
        else if (v &&& mask).getLsbD 4 then .fifoUnderrun else if (v &&& mask).getLsbD 5 then .fifoOverrun
        else .dmaTransferError
    let n := clampLength settings length
    let t := readBlock { settings with dataFlagsOf := flags } length buffer s
    let disable (c : Word) : List Event := if c.getLsbD 12 then [Event.wr .cmd 0] else []
    let word (idx : Idx) (trans stop : Bool) : Word := controlWord settings idx (Config.respKindOf idx) trans stop
    let blockLength : List Event := [Event.wr .icr 0x080005FF, .wr .dctrl 0, .wr .arg n, .wr .cmd (word 16 false false),
      .rd .sta sta1, .wr .icr 0x080005FF]
    let registers : List Event := [Event.wr .dtimer 0xFFFFFFFF, .wr .dlen n, .wr .idmabase buffer, .rd .dctrl d,
      .wr .dctrl (dctrlWord settings d (blockExponent n)), .wr .idmactrl 1]
    let command : List Event := [Event.wr .icr 0x080005FF, .wr .arg s.latchArg, .wr .cmd (word s.latchOpcode true false),
      .rd .sta sta2]
    let data : List Event := (misses.flatMap fun v => [Event.rd .sta v, .dly]) ++
      (last.toList.map fun v => Event.rd .sta v) ++ [Event.log (.commandError err s.latchOpcode)]
    let leave : List Event := [Event.wr .icr 0x080005FF, .rd .cmd c3, .wr .cmd (c3 &&& 0xFFFFFFBF), .rd .sta sta3]
    let stopEvents : List Event := [Event.wr .icr 0x080005FF, .wr .dctrl 0, .wr .arg 0, .wr .cmd (word 12 false true)]
    let cleanup : List Event := stop.toList.flatMap fun p => [Event.rd .cmd p.1] ++ disable p.1 ++ stopEvents ++
      [Event.rd .sta p.2, .wr .icr 0x080005FF]
    t.completion = some ⟨err, 0, none, none⟩ ∧ t.pending = false ∧ t.latchOpcode = 0 ∧ t.latchArg = 0 ∧
    t.phase = .idle ∧ t.nextIsAcmd = false ∧ t.ctrlAnswers = rest ∧
    t.trace = s.trace ++ [Event.cache buffer n, .rd .cmd c1] ++ disable c1 ++ blockLength ++ registers ++
      [Event.rd .cmd c2] ++ disable c2 ++ command ++ data ++ leave ++ cleanup ++ [Event.cache buffer n] ∧
    (flags = Config.dataFlagsOf → exec (.rdblk address length buffer) s = .next t)

/-- 41_data_path.md section 3 (decision D29): WRITE_BLOCK is a stub: Success, no event, nothing else changed, also
while a command is latched. -/
def Obligations.WriteBlockIsAStub : Prop :=
  ∀ (address length buffer : Word) (s : State),
    exec (.wrblk address length buffer) s = .next { s with completion := some ⟨.success, 0, none, none⟩ }

/-! ### The host surface -/

/-- 43_host_surface.md R190: card-present is always true and performs no event. -/
def Obligations.CardPresentIsTrue : Prop :=
  ∀ s : State, exec .cardp s = .next { s with completion := some ⟨.success, 1, none, none⟩ }

/-- 43_host_surface.md R191: read-only is always false and performs no event. -/
def Obligations.ReadOnlyIsFalse : Prop :=
  ∀ s : State, exec .rdonly s = .next { s with completion := some ⟨.success, 0, none, none⟩ }

/-- 43_host_surface.md (decision D36; the descriptor is a free value, log entry 3): NOTIFY changes nothing for every
operand, and DEVPATH hands over some descriptor; both complete with Success and perform no event. -/
def Obligations.NotifyAndDevicePathAreQuiet : Prop :=
  ∀ (state : Word) (s : State),
    exec (.notify state) s = .next { s with completion := some ⟨.success, 0, none, none⟩ } ∧
    ∃ path, exec .devpath s = .next { s with
      draws := s.draws + 1, completion := some ⟨.success, 0, none, some path⟩ }

/-- 43_host_surface.md and 30_encoding.md section 6 (decision D35): a bus width of 0, 4 or 8 is one read and one write
of the clock-control register; the word written has the 4-bit-width bit exactly for width 4, the 8-bit-width bit
exactly for width 8, the fixed divider in its field whatever `clock` and `timing` are, and every other bit as read. -/
def Obligations.ValidBusWidthIsProgrammed : Prop :=
  ∀ (width clock timing : Word) (s : State), width = 0 ∨ width = 4 ∨ width = 8 →
    ∃ (t : State) (w : Word), exec (.setbus width clock timing) s = .next t ∧
      w.getLsbD 14 = (width == 4) ∧ w.getLsbD 15 = (width == 8) ∧ w.extractLsb' 0 10 = Config.clkdivFixed ∧
      w &&& 0xFFFF3C00 = s.answer .clkcr &&& 0xFFFF3C00 ∧
      t = { s with
        seqStep := .none
        seqIter := 0
        ctrl := { s.ctrl with clkcr := w }
        ctrlAnswers := s.ctrlAnswers.tail
        draws := s.draws + (if s.ctrlAnswers = [] then 1 else 0)
        trace := s.trace ++ [Event.rd .clkcr (s.answer .clkcr), .wr .clkcr w]
        completion := some ⟨.success, 0, none, none⟩ }

/-- 43_host_surface.md (decision D35): any other width logs the error and touches no register; the status is Success or
InvalidArgument. -/
def Obligations.InvalidBusWidthIsLogged : Prop :=
  ∀ (width clock timing : Word) (s : State), width ≠ 0 → width ≠ 4 → width ≠ 8 →
    ∃ st : Status, (st = .success ∨ st = .invalidArgument) ∧
      exec (.setbus width clock timing) s = .next { s with
        seqStep := .none
        seqIter := 0
        draws := s.draws + 1
        trace := s.trace ++ [Event.log (.badBusWidth width)]
        completion := some ⟨st, 0, none, none⟩ }

/-! ### The whole machine -/

/-- 10_state.md section 1: the pending flag is set by a data-bearing SEND_COMMAND and by nothing else, and cleared by a
READ_BLOCK of good length and by nothing else; CONFIGURE does not clear it and WRITE_BLOCK does not touch it. -/
def Obligations.PendingSetByDeferralClearedByReplay : Prop :=
  (∀ (i : Instr) (s t : State), exec i s = .next t →
    (s.pending = false → (t.pending = true ↔
      ∃ idx arg, i = Instr.sendcmd idx arg ∧ dataBearing settings idx arg = true)) ∧
    (s.pending = true → (t.pending = false ↔ ∃ address length buffer, i = .rdblk address length buffer ∧
      validLength (clampLength settings length) = true))) ∧
  (∀ (d : TransferDescriptor) (s : State), (configure settings d s).pending = s.pending) ∧
  (∀ (address length buffer : Word) (s t : State), exec (.wrblk address length buffer) s = .next t →
    t.pending = s.pending)

/-- 20_memory.md section 11: the block's own memory accesses are the four writes of RECEIVE_RESPONSE: no other operation
writes memory, and RECEIVE_RESPONSE makes four writes or, refused, none. The block has no event that reads memory. -/
def Obligations.OnlyTheResponseReaderWritesMemory : Prop :=
  ∀ (i : Instr) (s t : State), exec i s = .next t → ∃ evs, t.trace = s.trace ++ evs ∧
    ((∀ kind out, i ≠ .recvrsp kind out) → ∀ a v, Event.memWr a v ∉ evs) ∧
    (∀ kind out, i = .recvrsp kind out →
      (evs.filter fun e => match e with | .memWr _ _ => true | _ => false).length =
        if kind.toNat ≤ 5 ∧ out ≠ 0 then 4 else 0)

/-- 10_state.md section 6 (the register table and its two access columns; POWER, DCOUNT and MASK never: decision D44)
and 20_memory.md sections 9 and 11: every operation appends to the trace only events its group may perform. -/
def Obligations.AccessesFollowTheRegisterTable : Prop :=
  ∀ (i : Instr) (s t : State), exec i s = .next t →
    ∃ evs, t.trace = s.trace ++ evs ∧ ∀ e ∈ evs, mayPerform (accessGroup i) e = true

/-- 70_reset_and_hazards.md section 4: an operation requests at most 20 delays (SEND_COMMAND), 2040 (READ_BLOCK) or
none (every other). -/
def Obligations.DelaysAreBounded : Prop :=
  ∀ (i : Instr) (s t : State), exec i s = .next t →
    ∃ evs, t.trace = s.trace ++ evs ∧ delays evs ≤ delayBound (accessGroup i)

/-- 60_exceptions.md section 1 (decisions D24, D26, D30): an operation that completes with UsageFault performs no event
and changes nothing but the completion port, which carries a reason. -/
def Obligations.UsageFaultChangesNothingElse : Prop :=
  ∀ (i : Instr) (s t : State), exec i s = .next t →
    (∃ c, t.completion = some c ∧ c.status = .usageFault) →
    ∃ why, t = { s with completion := some ⟨.usageFault, 0, some why, none⟩ }
end

