-- ==== Sys2Proof/Laws/State.lean ====
section
/-! SUPPORT. One lemma for each field of State and each update of Machine/Ops.lean, so that no proof unfolds a
record update. -/

namespace Sys2Proof.Machine

@[simp] theorem State.emit_latchOpcode (e : Event) (s : State) : (State.emit e s).latchOpcode = s.latchOpcode := rfl
@[simp] theorem State.emit_latchArg (e : Event) (s : State) : (State.emit e s).latchArg = s.latchArg := rfl
@[simp] theorem State.emit_pending (e : Event) (s : State) : (State.emit e s).pending = s.pending := rfl
@[simp] theorem State.emit_nextIsAcmd (e : Event) (s : State) : (State.emit e s).nextIsAcmd = s.nextIsAcmd := rfl
@[simp] theorem State.emit_phase (e : Event) (s : State) : (State.emit e s).phase = s.phase := rfl
@[simp] theorem State.emit_seqStep (e : Event) (s : State) : (State.emit e s).seqStep = s.seqStep := rfl
@[simp] theorem State.emit_seqIter (e : Event) (s : State) : (State.emit e s).seqIter = s.seqIter := rfl
@[simp] theorem State.emit_ctrl (e : Event) (s : State) : (State.emit e s).ctrl = s.ctrl := rfl
@[simp] theorem State.emit_mem (e : Event) (s : State) : (State.emit e s).mem = s.mem := rfl
@[simp] theorem State.emit_hostRequests (e : Event) (s : State) : (State.emit e s).hostRequests = s.hostRequests := rfl
@[simp] theorem State.emit_ctrlAnswers (e : Event) (s : State) : (State.emit e s).ctrlAnswers = s.ctrlAnswers := rfl
@[simp] theorem State.emit_draws (e : Event) (s : State) : (State.emit e s).draws = s.draws := rfl
@[simp] theorem State.emit_trace (e : Event) (s : State) : (State.emit e s).trace = s.trace ++ [e] := rfl
@[simp] theorem State.emit_completion (e : Event) (s : State) : (State.emit e s).completion = s.completion := rfl

@[simp] theorem State.latch_latchOpcode (idx : Idx) (arg : Word) (s : State) : (State.latch idx arg s).latchOpcode = idx := rfl
@[simp] theorem State.latch_latchArg (idx : Idx) (arg : Word) (s : State) : (State.latch idx arg s).latchArg = arg := rfl
@[simp] theorem State.latch_pending (idx : Idx) (arg : Word) (s : State) : (State.latch idx arg s).pending = true := rfl
@[simp] theorem State.latch_nextIsAcmd (idx : Idx) (arg : Word) (s : State) : (State.latch idx arg s).nextIsAcmd = s.nextIsAcmd := rfl
@[simp] theorem State.latch_phase (idx : Idx) (arg : Word) (s : State) : (State.latch idx arg s).phase = .deferred := rfl
@[simp] theorem State.latch_seqStep (idx : Idx) (arg : Word) (s : State) : (State.latch idx arg s).seqStep = s.seqStep := rfl
@[simp] theorem State.latch_seqIter (idx : Idx) (arg : Word) (s : State) : (State.latch idx arg s).seqIter = s.seqIter := rfl
@[simp] theorem State.latch_ctrl (idx : Idx) (arg : Word) (s : State) : (State.latch idx arg s).ctrl = s.ctrl := rfl
@[simp] theorem State.latch_mem (idx : Idx) (arg : Word) (s : State) : (State.latch idx arg s).mem = s.mem := rfl
@[simp] theorem State.latch_hostRequests (idx : Idx) (arg : Word) (s : State) : (State.latch idx arg s).hostRequests = s.hostRequests := rfl
@[simp] theorem State.latch_ctrlAnswers (idx : Idx) (arg : Word) (s : State) : (State.latch idx arg s).ctrlAnswers = s.ctrlAnswers := rfl
@[simp] theorem State.latch_draws (idx : Idx) (arg : Word) (s : State) : (State.latch idx arg s).draws = s.draws := rfl
@[simp] theorem State.latch_trace (idx : Idx) (arg : Word) (s : State) : (State.latch idx arg s).trace = s.trace := rfl
@[simp] theorem State.latch_completion (idx : Idx) (arg : Word) (s : State) : (State.latch idx arg s).completion = s.completion := rfl

@[simp] theorem State.clearLatch_latchOpcode (s : State) : (s.clearLatch).latchOpcode = 0 := rfl
@[simp] theorem State.clearLatch_latchArg (s : State) : (s.clearLatch).latchArg = 0 := rfl
@[simp] theorem State.clearLatch_pending (s : State) : (s.clearLatch).pending = false := rfl
@[simp] theorem State.clearLatch_nextIsAcmd (s : State) : (s.clearLatch).nextIsAcmd = s.nextIsAcmd := rfl
@[simp] theorem State.clearLatch_phase (s : State) : (s.clearLatch).phase = .idle := rfl
@[simp] theorem State.clearLatch_seqStep (s : State) : (s.clearLatch).seqStep = s.seqStep := rfl
@[simp] theorem State.clearLatch_seqIter (s : State) : (s.clearLatch).seqIter = s.seqIter := rfl
@[simp] theorem State.clearLatch_ctrl (s : State) : (s.clearLatch).ctrl = s.ctrl := rfl
@[simp] theorem State.clearLatch_mem (s : State) : (s.clearLatch).mem = s.mem := rfl
@[simp] theorem State.clearLatch_hostRequests (s : State) : (s.clearLatch).hostRequests = s.hostRequests := rfl
@[simp] theorem State.clearLatch_ctrlAnswers (s : State) : (s.clearLatch).ctrlAnswers = s.ctrlAnswers := rfl
@[simp] theorem State.clearLatch_draws (s : State) : (s.clearLatch).draws = s.draws := rfl
@[simp] theorem State.clearLatch_trace (s : State) : (s.clearLatch).trace = s.trace := rfl
@[simp] theorem State.clearLatch_completion (s : State) : (s.clearLatch).completion = s.completion := rfl

@[simp] theorem State.setMarker_latchOpcode (b : Bool) (s : State) : (State.setMarker b s).latchOpcode = s.latchOpcode := rfl
@[simp] theorem State.setMarker_latchArg (b : Bool) (s : State) : (State.setMarker b s).latchArg = s.latchArg := rfl
@[simp] theorem State.setMarker_pending (b : Bool) (s : State) : (State.setMarker b s).pending = s.pending := rfl
@[simp] theorem State.setMarker_nextIsAcmd (b : Bool) (s : State) : (State.setMarker b s).nextIsAcmd = b := rfl
@[simp] theorem State.setMarker_phase (b : Bool) (s : State) : (State.setMarker b s).phase = s.phase := rfl
@[simp] theorem State.setMarker_seqStep (b : Bool) (s : State) : (State.setMarker b s).seqStep = s.seqStep := rfl
@[simp] theorem State.setMarker_seqIter (b : Bool) (s : State) : (State.setMarker b s).seqIter = s.seqIter := rfl
@[simp] theorem State.setMarker_ctrl (b : Bool) (s : State) : (State.setMarker b s).ctrl = s.ctrl := rfl
@[simp] theorem State.setMarker_mem (b : Bool) (s : State) : (State.setMarker b s).mem = s.mem := rfl
@[simp] theorem State.setMarker_hostRequests (b : Bool) (s : State) : (State.setMarker b s).hostRequests = s.hostRequests := rfl
@[simp] theorem State.setMarker_ctrlAnswers (b : Bool) (s : State) : (State.setMarker b s).ctrlAnswers = s.ctrlAnswers := rfl
@[simp] theorem State.setMarker_draws (b : Bool) (s : State) : (State.setMarker b s).draws = s.draws := rfl
@[simp] theorem State.setMarker_trace (b : Bool) (s : State) : (State.setMarker b s).trace = s.trace := rfl
@[simp] theorem State.setMarker_completion (b : Bool) (s : State) : (State.setMarker b s).completion = s.completion := rfl

@[simp] theorem State.setPhase_latchOpcode (p : Phase) (s : State) : (State.setPhase p s).latchOpcode = s.latchOpcode := rfl
@[simp] theorem State.setPhase_latchArg (p : Phase) (s : State) : (State.setPhase p s).latchArg = s.latchArg := rfl
@[simp] theorem State.setPhase_pending (p : Phase) (s : State) : (State.setPhase p s).pending = s.pending := rfl
@[simp] theorem State.setPhase_nextIsAcmd (p : Phase) (s : State) : (State.setPhase p s).nextIsAcmd = s.nextIsAcmd := rfl
@[simp] theorem State.setPhase_phase (p : Phase) (s : State) : (State.setPhase p s).phase = p := rfl
@[simp] theorem State.setPhase_seqStep (p : Phase) (s : State) : (State.setPhase p s).seqStep = s.seqStep := rfl
@[simp] theorem State.setPhase_seqIter (p : Phase) (s : State) : (State.setPhase p s).seqIter = s.seqIter := rfl
@[simp] theorem State.setPhase_ctrl (p : Phase) (s : State) : (State.setPhase p s).ctrl = s.ctrl := rfl
@[simp] theorem State.setPhase_mem (p : Phase) (s : State) : (State.setPhase p s).mem = s.mem := rfl
@[simp] theorem State.setPhase_hostRequests (p : Phase) (s : State) : (State.setPhase p s).hostRequests = s.hostRequests := rfl
@[simp] theorem State.setPhase_ctrlAnswers (p : Phase) (s : State) : (State.setPhase p s).ctrlAnswers = s.ctrlAnswers := rfl
@[simp] theorem State.setPhase_draws (p : Phase) (s : State) : (State.setPhase p s).draws = s.draws := rfl
@[simp] theorem State.setPhase_trace (p : Phase) (s : State) : (State.setPhase p s).trace = s.trace := rfl
@[simp] theorem State.setPhase_completion (p : Phase) (s : State) : (State.setPhase p s).completion = s.completion := rfl

@[simp] theorem State.atRule_latchOpcode (n : Nat) (s : State) : (State.atRule n s).latchOpcode = s.latchOpcode := rfl
@[simp] theorem State.atRule_latchArg (n : Nat) (s : State) : (State.atRule n s).latchArg = s.latchArg := rfl
@[simp] theorem State.atRule_pending (n : Nat) (s : State) : (State.atRule n s).pending = s.pending := rfl
@[simp] theorem State.atRule_nextIsAcmd (n : Nat) (s : State) : (State.atRule n s).nextIsAcmd = s.nextIsAcmd := rfl
@[simp] theorem State.atRule_phase (n : Nat) (s : State) : (State.atRule n s).phase = s.phase := rfl
@[simp] theorem State.atRule_seqStep (n : Nat) (s : State) : (State.atRule n s).seqStep = .rule n := rfl
@[simp] theorem State.atRule_seqIter (n : Nat) (s : State) : (State.atRule n s).seqIter = s.seqIter := rfl
@[simp] theorem State.atRule_ctrl (n : Nat) (s : State) : (State.atRule n s).ctrl = s.ctrl := rfl
@[simp] theorem State.atRule_mem (n : Nat) (s : State) : (State.atRule n s).mem = s.mem := rfl
@[simp] theorem State.atRule_hostRequests (n : Nat) (s : State) : (State.atRule n s).hostRequests = s.hostRequests := rfl
@[simp] theorem State.atRule_ctrlAnswers (n : Nat) (s : State) : (State.atRule n s).ctrlAnswers = s.ctrlAnswers := rfl
@[simp] theorem State.atRule_draws (n : Nat) (s : State) : (State.atRule n s).draws = s.draws := rfl
@[simp] theorem State.atRule_trace (n : Nat) (s : State) : (State.atRule n s).trace = s.trace := rfl
@[simp] theorem State.atRule_completion (n : Nat) (s : State) : (State.atRule n s).completion = s.completion := rfl

@[simp] theorem State.setIter_latchOpcode (n : Nat) (s : State) : (State.setIter n s).latchOpcode = s.latchOpcode := rfl
@[simp] theorem State.setIter_latchArg (n : Nat) (s : State) : (State.setIter n s).latchArg = s.latchArg := rfl
@[simp] theorem State.setIter_pending (n : Nat) (s : State) : (State.setIter n s).pending = s.pending := rfl
@[simp] theorem State.setIter_nextIsAcmd (n : Nat) (s : State) : (State.setIter n s).nextIsAcmd = s.nextIsAcmd := rfl
@[simp] theorem State.setIter_phase (n : Nat) (s : State) : (State.setIter n s).phase = s.phase := rfl
@[simp] theorem State.setIter_seqStep (n : Nat) (s : State) : (State.setIter n s).seqStep = s.seqStep := rfl
@[simp] theorem State.setIter_seqIter (n : Nat) (s : State) : (State.setIter n s).seqIter = n := rfl
@[simp] theorem State.setIter_ctrl (n : Nat) (s : State) : (State.setIter n s).ctrl = s.ctrl := rfl
@[simp] theorem State.setIter_mem (n : Nat) (s : State) : (State.setIter n s).mem = s.mem := rfl
@[simp] theorem State.setIter_hostRequests (n : Nat) (s : State) : (State.setIter n s).hostRequests = s.hostRequests := rfl
@[simp] theorem State.setIter_ctrlAnswers (n : Nat) (s : State) : (State.setIter n s).ctrlAnswers = s.ctrlAnswers := rfl
@[simp] theorem State.setIter_draws (n : Nat) (s : State) : (State.setIter n s).draws = s.draws := rfl
@[simp] theorem State.setIter_trace (n : Nat) (s : State) : (State.setIter n s).trace = s.trace := rfl
@[simp] theorem State.setIter_completion (n : Nat) (s : State) : (State.setIter n s).completion = s.completion := rfl

@[simp] theorem State.setCtrl_latchOpcode (regs : CtrlRegs) (s : State) : (State.setCtrl regs s).latchOpcode = s.latchOpcode := rfl
@[simp] theorem State.setCtrl_latchArg (regs : CtrlRegs) (s : State) : (State.setCtrl regs s).latchArg = s.latchArg := rfl
@[simp] theorem State.setCtrl_pending (regs : CtrlRegs) (s : State) : (State.setCtrl regs s).pending = s.pending := rfl
@[simp] theorem State.setCtrl_nextIsAcmd (regs : CtrlRegs) (s : State) : (State.setCtrl regs s).nextIsAcmd = s.nextIsAcmd := rfl
@[simp] theorem State.setCtrl_phase (regs : CtrlRegs) (s : State) : (State.setCtrl regs s).phase = s.phase := rfl
@[simp] theorem State.setCtrl_seqStep (regs : CtrlRegs) (s : State) : (State.setCtrl regs s).seqStep = s.seqStep := rfl
@[simp] theorem State.setCtrl_seqIter (regs : CtrlRegs) (s : State) : (State.setCtrl regs s).seqIter = s.seqIter := rfl
@[simp] theorem State.setCtrl_ctrl (regs : CtrlRegs) (s : State) : (State.setCtrl regs s).ctrl = regs := rfl
@[simp] theorem State.setCtrl_mem (regs : CtrlRegs) (s : State) : (State.setCtrl regs s).mem = s.mem := rfl
@[simp] theorem State.setCtrl_hostRequests (regs : CtrlRegs) (s : State) : (State.setCtrl regs s).hostRequests = s.hostRequests := rfl
@[simp] theorem State.setCtrl_ctrlAnswers (regs : CtrlRegs) (s : State) : (State.setCtrl regs s).ctrlAnswers = s.ctrlAnswers := rfl
@[simp] theorem State.setCtrl_draws (regs : CtrlRegs) (s : State) : (State.setCtrl regs s).draws = s.draws := rfl
@[simp] theorem State.setCtrl_trace (regs : CtrlRegs) (s : State) : (State.setCtrl regs s).trace = s.trace := rfl
@[simp] theorem State.setCtrl_completion (regs : CtrlRegs) (s : State) : (State.setCtrl regs s).completion = s.completion := rfl

@[simp] theorem State.setMem_latchOpcode (m : Memory) (s : State) : (State.setMem m s).latchOpcode = s.latchOpcode := rfl
@[simp] theorem State.setMem_latchArg (m : Memory) (s : State) : (State.setMem m s).latchArg = s.latchArg := rfl
@[simp] theorem State.setMem_pending (m : Memory) (s : State) : (State.setMem m s).pending = s.pending := rfl
@[simp] theorem State.setMem_nextIsAcmd (m : Memory) (s : State) : (State.setMem m s).nextIsAcmd = s.nextIsAcmd := rfl
@[simp] theorem State.setMem_phase (m : Memory) (s : State) : (State.setMem m s).phase = s.phase := rfl
@[simp] theorem State.setMem_seqStep (m : Memory) (s : State) : (State.setMem m s).seqStep = s.seqStep := rfl
@[simp] theorem State.setMem_seqIter (m : Memory) (s : State) : (State.setMem m s).seqIter = s.seqIter := rfl
@[simp] theorem State.setMem_ctrl (m : Memory) (s : State) : (State.setMem m s).ctrl = s.ctrl := rfl
@[simp] theorem State.setMem_mem (m : Memory) (s : State) : (State.setMem m s).mem = m := rfl
@[simp] theorem State.setMem_hostRequests (m : Memory) (s : State) : (State.setMem m s).hostRequests = s.hostRequests := rfl
@[simp] theorem State.setMem_ctrlAnswers (m : Memory) (s : State) : (State.setMem m s).ctrlAnswers = s.ctrlAnswers := rfl
@[simp] theorem State.setMem_draws (m : Memory) (s : State) : (State.setMem m s).draws = s.draws := rfl
@[simp] theorem State.setMem_trace (m : Memory) (s : State) : (State.setMem m s).trace = s.trace := rfl
@[simp] theorem State.setMem_completion (m : Memory) (s : State) : (State.setMem m s).completion = s.completion := rfl

@[simp] theorem State.setAnswers_latchOpcode (l : List Word) (s : State) : (State.setAnswers l s).latchOpcode = s.latchOpcode := rfl
@[simp] theorem State.setAnswers_latchArg (l : List Word) (s : State) : (State.setAnswers l s).latchArg = s.latchArg := rfl
@[simp] theorem State.setAnswers_pending (l : List Word) (s : State) : (State.setAnswers l s).pending = s.pending := rfl
@[simp] theorem State.setAnswers_nextIsAcmd (l : List Word) (s : State) : (State.setAnswers l s).nextIsAcmd = s.nextIsAcmd := rfl
@[simp] theorem State.setAnswers_phase (l : List Word) (s : State) : (State.setAnswers l s).phase = s.phase := rfl
@[simp] theorem State.setAnswers_seqStep (l : List Word) (s : State) : (State.setAnswers l s).seqStep = s.seqStep := rfl
@[simp] theorem State.setAnswers_seqIter (l : List Word) (s : State) : (State.setAnswers l s).seqIter = s.seqIter := rfl
@[simp] theorem State.setAnswers_ctrl (l : List Word) (s : State) : (State.setAnswers l s).ctrl = s.ctrl := rfl
@[simp] theorem State.setAnswers_mem (l : List Word) (s : State) : (State.setAnswers l s).mem = s.mem := rfl
@[simp] theorem State.setAnswers_hostRequests (l : List Word) (s : State) : (State.setAnswers l s).hostRequests = s.hostRequests := rfl
@[simp] theorem State.setAnswers_ctrlAnswers (l : List Word) (s : State) : (State.setAnswers l s).ctrlAnswers = l := rfl
@[simp] theorem State.setAnswers_draws (l : List Word) (s : State) : (State.setAnswers l s).draws = s.draws := rfl
@[simp] theorem State.setAnswers_trace (l : List Word) (s : State) : (State.setAnswers l s).trace = s.trace := rfl
@[simp] theorem State.setAnswers_completion (l : List Word) (s : State) : (State.setAnswers l s).completion = s.completion := rfl

@[simp] theorem State.addDraws_latchOpcode (n : Nat) (s : State) : (State.addDraws n s).latchOpcode = s.latchOpcode := rfl
@[simp] theorem State.addDraws_latchArg (n : Nat) (s : State) : (State.addDraws n s).latchArg = s.latchArg := rfl
@[simp] theorem State.addDraws_pending (n : Nat) (s : State) : (State.addDraws n s).pending = s.pending := rfl
@[simp] theorem State.addDraws_nextIsAcmd (n : Nat) (s : State) : (State.addDraws n s).nextIsAcmd = s.nextIsAcmd := rfl
@[simp] theorem State.addDraws_phase (n : Nat) (s : State) : (State.addDraws n s).phase = s.phase := rfl
@[simp] theorem State.addDraws_seqStep (n : Nat) (s : State) : (State.addDraws n s).seqStep = s.seqStep := rfl
@[simp] theorem State.addDraws_seqIter (n : Nat) (s : State) : (State.addDraws n s).seqIter = s.seqIter := rfl
@[simp] theorem State.addDraws_ctrl (n : Nat) (s : State) : (State.addDraws n s).ctrl = s.ctrl := rfl
@[simp] theorem State.addDraws_mem (n : Nat) (s : State) : (State.addDraws n s).mem = s.mem := rfl
@[simp] theorem State.addDraws_hostRequests (n : Nat) (s : State) : (State.addDraws n s).hostRequests = s.hostRequests := rfl
@[simp] theorem State.addDraws_ctrlAnswers (n : Nat) (s : State) : (State.addDraws n s).ctrlAnswers = s.ctrlAnswers := rfl
@[simp] theorem State.addDraws_draws (n : Nat) (s : State) : (State.addDraws n s).draws = s.draws + n := rfl
@[simp] theorem State.addDraws_trace (n : Nat) (s : State) : (State.addDraws n s).trace = s.trace := rfl
@[simp] theorem State.addDraws_completion (n : Nat) (s : State) : (State.addDraws n s).completion = s.completion := rfl

@[simp] theorem State.setRequests_latchOpcode (l : List Request) (s : State) : (State.setRequests l s).latchOpcode = s.latchOpcode := rfl
@[simp] theorem State.setRequests_latchArg (l : List Request) (s : State) : (State.setRequests l s).latchArg = s.latchArg := rfl
@[simp] theorem State.setRequests_pending (l : List Request) (s : State) : (State.setRequests l s).pending = s.pending := rfl
@[simp] theorem State.setRequests_nextIsAcmd (l : List Request) (s : State) : (State.setRequests l s).nextIsAcmd = s.nextIsAcmd := rfl
@[simp] theorem State.setRequests_phase (l : List Request) (s : State) : (State.setRequests l s).phase = s.phase := rfl
@[simp] theorem State.setRequests_seqStep (l : List Request) (s : State) : (State.setRequests l s).seqStep = s.seqStep := rfl
@[simp] theorem State.setRequests_seqIter (l : List Request) (s : State) : (State.setRequests l s).seqIter = s.seqIter := rfl
@[simp] theorem State.setRequests_ctrl (l : List Request) (s : State) : (State.setRequests l s).ctrl = s.ctrl := rfl
@[simp] theorem State.setRequests_mem (l : List Request) (s : State) : (State.setRequests l s).mem = s.mem := rfl
@[simp] theorem State.setRequests_hostRequests (l : List Request) (s : State) : (State.setRequests l s).hostRequests = l := rfl
@[simp] theorem State.setRequests_ctrlAnswers (l : List Request) (s : State) : (State.setRequests l s).ctrlAnswers = s.ctrlAnswers := rfl
@[simp] theorem State.setRequests_draws (l : List Request) (s : State) : (State.setRequests l s).draws = s.draws := rfl
@[simp] theorem State.setRequests_trace (l : List Request) (s : State) : (State.setRequests l s).trace = s.trace := rfl
@[simp] theorem State.setRequests_completion (l : List Request) (s : State) : (State.setRequests l s).completion = s.completion := rfl

@[simp] theorem State.deliver_latchOpcode (c : Completion) (s : State) : (State.deliver c s).latchOpcode = s.latchOpcode := rfl
@[simp] theorem State.deliver_latchArg (c : Completion) (s : State) : (State.deliver c s).latchArg = s.latchArg := rfl
@[simp] theorem State.deliver_pending (c : Completion) (s : State) : (State.deliver c s).pending = s.pending := rfl
@[simp] theorem State.deliver_nextIsAcmd (c : Completion) (s : State) : (State.deliver c s).nextIsAcmd = s.nextIsAcmd := rfl
@[simp] theorem State.deliver_phase (c : Completion) (s : State) : (State.deliver c s).phase = s.phase := rfl
@[simp] theorem State.deliver_seqStep (c : Completion) (s : State) : (State.deliver c s).seqStep = s.seqStep := rfl
@[simp] theorem State.deliver_seqIter (c : Completion) (s : State) : (State.deliver c s).seqIter = s.seqIter := rfl
@[simp] theorem State.deliver_ctrl (c : Completion) (s : State) : (State.deliver c s).ctrl = s.ctrl := rfl
@[simp] theorem State.deliver_mem (c : Completion) (s : State) : (State.deliver c s).mem = s.mem := rfl
@[simp] theorem State.deliver_hostRequests (c : Completion) (s : State) : (State.deliver c s).hostRequests = s.hostRequests := rfl
@[simp] theorem State.deliver_ctrlAnswers (c : Completion) (s : State) : (State.deliver c s).ctrlAnswers = s.ctrlAnswers := rfl
@[simp] theorem State.deliver_draws (c : Completion) (s : State) : (State.deliver c s).draws = s.draws := rfl
@[simp] theorem State.deliver_trace (c : Completion) (s : State) : (State.deliver c s).trace = s.trace := rfl
@[simp] theorem State.deliver_completion (c : Completion) (s : State) : (State.deliver c s).completion = some c := rfl

@[simp] theorem State.seqIdle_latchOpcode (s : State) : (s.seqIdle).latchOpcode = s.latchOpcode := rfl
@[simp] theorem State.seqIdle_latchArg (s : State) : (s.seqIdle).latchArg = s.latchArg := rfl
@[simp] theorem State.seqIdle_pending (s : State) : (s.seqIdle).pending = s.pending := rfl
@[simp] theorem State.seqIdle_nextIsAcmd (s : State) : (s.seqIdle).nextIsAcmd = s.nextIsAcmd := rfl
@[simp] theorem State.seqIdle_phase (s : State) : (s.seqIdle).phase = s.phase := rfl
@[simp] theorem State.seqIdle_seqStep (s : State) : (s.seqIdle).seqStep = .none := rfl
@[simp] theorem State.seqIdle_seqIter (s : State) : (s.seqIdle).seqIter = 0 := rfl
@[simp] theorem State.seqIdle_ctrl (s : State) : (s.seqIdle).ctrl = s.ctrl := rfl
@[simp] theorem State.seqIdle_mem (s : State) : (s.seqIdle).mem = s.mem := rfl
@[simp] theorem State.seqIdle_hostRequests (s : State) : (s.seqIdle).hostRequests = s.hostRequests := rfl
@[simp] theorem State.seqIdle_ctrlAnswers (s : State) : (s.seqIdle).ctrlAnswers = s.ctrlAnswers := rfl
@[simp] theorem State.seqIdle_draws (s : State) : (s.seqIdle).draws = s.draws := rfl
@[simp] theorem State.seqIdle_trace (s : State) : (s.seqIdle).trace = s.trace := rfl
@[simp] theorem State.seqIdle_completion (s : State) : (s.seqIdle).completion = s.completion := rfl

@[simp] theorem State.regWrite_latchOpcode (r : Reg) (v : Word) (s : State) : (State.regWrite r v s).latchOpcode = s.latchOpcode := rfl
@[simp] theorem State.regWrite_latchArg (r : Reg) (v : Word) (s : State) : (State.regWrite r v s).latchArg = s.latchArg := rfl
@[simp] theorem State.regWrite_pending (r : Reg) (v : Word) (s : State) : (State.regWrite r v s).pending = s.pending := rfl
@[simp] theorem State.regWrite_nextIsAcmd (r : Reg) (v : Word) (s : State) : (State.regWrite r v s).nextIsAcmd = s.nextIsAcmd := rfl
@[simp] theorem State.regWrite_phase (r : Reg) (v : Word) (s : State) : (State.regWrite r v s).phase = s.phase := rfl
@[simp] theorem State.regWrite_seqStep (r : Reg) (v : Word) (s : State) : (State.regWrite r v s).seqStep = s.seqStep := rfl
@[simp] theorem State.regWrite_seqIter (r : Reg) (v : Word) (s : State) : (State.regWrite r v s).seqIter = s.seqIter := rfl
@[simp] theorem State.regWrite_ctrl (r : Reg) (v : Word) (s : State) : (State.regWrite r v s).ctrl = s.ctrl.set r v := rfl
@[simp] theorem State.regWrite_mem (r : Reg) (v : Word) (s : State) : (State.regWrite r v s).mem = s.mem := rfl
@[simp] theorem State.regWrite_hostRequests (r : Reg) (v : Word) (s : State) : (State.regWrite r v s).hostRequests = s.hostRequests := rfl
@[simp] theorem State.regWrite_ctrlAnswers (r : Reg) (v : Word) (s : State) : (State.regWrite r v s).ctrlAnswers = s.ctrlAnswers := rfl
@[simp] theorem State.regWrite_draws (r : Reg) (v : Word) (s : State) : (State.regWrite r v s).draws = s.draws := rfl
@[simp] theorem State.regWrite_trace (r : Reg) (v : Word) (s : State) : (State.regWrite r v s).trace = s.trace ++ [.wr r v] := rfl
@[simp] theorem State.regWrite_completion (r : Reg) (v : Word) (s : State) : (State.regWrite r v s).completion = s.completion := rfl

@[simp] theorem State.delay_latchOpcode (s : State) : (s.delay).latchOpcode = s.latchOpcode := rfl
@[simp] theorem State.delay_latchArg (s : State) : (s.delay).latchArg = s.latchArg := rfl
@[simp] theorem State.delay_pending (s : State) : (s.delay).pending = s.pending := rfl
@[simp] theorem State.delay_nextIsAcmd (s : State) : (s.delay).nextIsAcmd = s.nextIsAcmd := rfl
@[simp] theorem State.delay_phase (s : State) : (s.delay).phase = s.phase := rfl
@[simp] theorem State.delay_seqStep (s : State) : (s.delay).seqStep = s.seqStep := rfl
@[simp] theorem State.delay_seqIter (s : State) : (s.delay).seqIter = s.seqIter := rfl
@[simp] theorem State.delay_ctrl (s : State) : (s.delay).ctrl = s.ctrl := rfl
@[simp] theorem State.delay_mem (s : State) : (s.delay).mem = s.mem := rfl
@[simp] theorem State.delay_hostRequests (s : State) : (s.delay).hostRequests = s.hostRequests := rfl
@[simp] theorem State.delay_ctrlAnswers (s : State) : (s.delay).ctrlAnswers = s.ctrlAnswers := rfl
@[simp] theorem State.delay_draws (s : State) : (s.delay).draws = s.draws := rfl
@[simp] theorem State.delay_trace (s : State) : (s.delay).trace = s.trace ++ [.dly] := rfl
@[simp] theorem State.delay_completion (s : State) : (s.delay).completion = s.completion := rfl

@[simp] theorem State.cacheWbInv_latchOpcode (a n : Word) (s : State) : (State.cacheWbInv a n s).latchOpcode = s.latchOpcode := rfl
@[simp] theorem State.cacheWbInv_latchArg (a n : Word) (s : State) : (State.cacheWbInv a n s).latchArg = s.latchArg := rfl
@[simp] theorem State.cacheWbInv_pending (a n : Word) (s : State) : (State.cacheWbInv a n s).pending = s.pending := rfl
@[simp] theorem State.cacheWbInv_nextIsAcmd (a n : Word) (s : State) : (State.cacheWbInv a n s).nextIsAcmd = s.nextIsAcmd := rfl
@[simp] theorem State.cacheWbInv_phase (a n : Word) (s : State) : (State.cacheWbInv a n s).phase = s.phase := rfl
@[simp] theorem State.cacheWbInv_seqStep (a n : Word) (s : State) : (State.cacheWbInv a n s).seqStep = s.seqStep := rfl
@[simp] theorem State.cacheWbInv_seqIter (a n : Word) (s : State) : (State.cacheWbInv a n s).seqIter = s.seqIter := rfl
@[simp] theorem State.cacheWbInv_ctrl (a n : Word) (s : State) : (State.cacheWbInv a n s).ctrl = s.ctrl := rfl
@[simp] theorem State.cacheWbInv_mem (a n : Word) (s : State) : (State.cacheWbInv a n s).mem = s.mem := rfl
@[simp] theorem State.cacheWbInv_hostRequests (a n : Word) (s : State) : (State.cacheWbInv a n s).hostRequests = s.hostRequests := rfl
@[simp] theorem State.cacheWbInv_ctrlAnswers (a n : Word) (s : State) : (State.cacheWbInv a n s).ctrlAnswers = s.ctrlAnswers := rfl
@[simp] theorem State.cacheWbInv_draws (a n : Word) (s : State) : (State.cacheWbInv a n s).draws = s.draws := rfl
@[simp] theorem State.cacheWbInv_trace (a n : Word) (s : State) : (State.cacheWbInv a n s).trace = s.trace ++ [.cache a n] := rfl
@[simp] theorem State.cacheWbInv_completion (a n : Word) (s : State) : (State.cacheWbInv a n s).completion = s.completion := rfl

@[simp] theorem State.memWrite_latchOpcode (cfg : Cfg) (a v : Word) (s : State) : (State.memWrite cfg a v s).latchOpcode = s.latchOpcode := rfl
@[simp] theorem State.memWrite_latchArg (cfg : Cfg) (a v : Word) (s : State) : (State.memWrite cfg a v s).latchArg = s.latchArg := rfl
@[simp] theorem State.memWrite_pending (cfg : Cfg) (a v : Word) (s : State) : (State.memWrite cfg a v s).pending = s.pending := rfl
@[simp] theorem State.memWrite_nextIsAcmd (cfg : Cfg) (a v : Word) (s : State) : (State.memWrite cfg a v s).nextIsAcmd = s.nextIsAcmd := rfl
@[simp] theorem State.memWrite_phase (cfg : Cfg) (a v : Word) (s : State) : (State.memWrite cfg a v s).phase = s.phase := rfl
@[simp] theorem State.memWrite_seqStep (cfg : Cfg) (a v : Word) (s : State) : (State.memWrite cfg a v s).seqStep = s.seqStep := rfl
@[simp] theorem State.memWrite_seqIter (cfg : Cfg) (a v : Word) (s : State) : (State.memWrite cfg a v s).seqIter = s.seqIter := rfl
@[simp] theorem State.memWrite_ctrl (cfg : Cfg) (a v : Word) (s : State) : (State.memWrite cfg a v s).ctrl = s.ctrl := rfl
@[simp] theorem State.memWrite_mem (cfg : Cfg) (a v : Word) (s : State) : (State.memWrite cfg a v s).mem = Memory.writeWord cfg s.mem a v := rfl
@[simp] theorem State.memWrite_hostRequests (cfg : Cfg) (a v : Word) (s : State) : (State.memWrite cfg a v s).hostRequests = s.hostRequests := rfl
@[simp] theorem State.memWrite_ctrlAnswers (cfg : Cfg) (a v : Word) (s : State) : (State.memWrite cfg a v s).ctrlAnswers = s.ctrlAnswers := rfl
@[simp] theorem State.memWrite_draws (cfg : Cfg) (a v : Word) (s : State) : (State.memWrite cfg a v s).draws = s.draws := rfl
@[simp] theorem State.memWrite_trace (cfg : Cfg) (a v : Word) (s : State) : (State.memWrite cfg a v s).trace = s.trace ++ [.memWr a v] := rfl
@[simp] theorem State.memWrite_completion (cfg : Cfg) (a v : Word) (s : State) : (State.memWrite cfg a v s).completion = s.completion := rfl

@[simp] theorem State.log_latchOpcode (e : LogEvent) (s : State) : (State.log e s).latchOpcode = s.latchOpcode := rfl
@[simp] theorem State.log_latchArg (e : LogEvent) (s : State) : (State.log e s).latchArg = s.latchArg := rfl
@[simp] theorem State.log_pending (e : LogEvent) (s : State) : (State.log e s).pending = s.pending := rfl
@[simp] theorem State.log_nextIsAcmd (e : LogEvent) (s : State) : (State.log e s).nextIsAcmd = s.nextIsAcmd := rfl
@[simp] theorem State.log_phase (e : LogEvent) (s : State) : (State.log e s).phase = s.phase := rfl
@[simp] theorem State.log_seqStep (e : LogEvent) (s : State) : (State.log e s).seqStep = s.seqStep := rfl
@[simp] theorem State.log_seqIter (e : LogEvent) (s : State) : (State.log e s).seqIter = s.seqIter := rfl
@[simp] theorem State.log_ctrl (e : LogEvent) (s : State) : (State.log e s).ctrl = s.ctrl := rfl
@[simp] theorem State.log_mem (e : LogEvent) (s : State) : (State.log e s).mem = s.mem := rfl
@[simp] theorem State.log_hostRequests (e : LogEvent) (s : State) : (State.log e s).hostRequests = s.hostRequests := rfl
@[simp] theorem State.log_ctrlAnswers (e : LogEvent) (s : State) : (State.log e s).ctrlAnswers = s.ctrlAnswers := rfl
@[simp] theorem State.log_draws (e : LogEvent) (s : State) : (State.log e s).draws = s.draws := rfl
@[simp] theorem State.log_trace (e : LogEvent) (s : State) : (State.log e s).trace = s.trace ++ [.log e] := rfl
@[simp] theorem State.log_completion (e : LogEvent) (s : State) : (State.log e s).completion = s.completion := rfl

@[simp] theorem State.idmaWrites_latchOpcode (cfg : Cfg) (a : Word) (n : Nat) (s : State) : (State.idmaWrites cfg a n s).latchOpcode = s.latchOpcode := rfl
@[simp] theorem State.idmaWrites_latchArg (cfg : Cfg) (a : Word) (n : Nat) (s : State) : (State.idmaWrites cfg a n s).latchArg = s.latchArg := rfl
@[simp] theorem State.idmaWrites_pending (cfg : Cfg) (a : Word) (n : Nat) (s : State) : (State.idmaWrites cfg a n s).pending = s.pending := rfl
@[simp] theorem State.idmaWrites_nextIsAcmd (cfg : Cfg) (a : Word) (n : Nat) (s : State) : (State.idmaWrites cfg a n s).nextIsAcmd = s.nextIsAcmd := rfl
@[simp] theorem State.idmaWrites_phase (cfg : Cfg) (a : Word) (n : Nat) (s : State) : (State.idmaWrites cfg a n s).phase = s.phase := rfl
@[simp] theorem State.idmaWrites_seqStep (cfg : Cfg) (a : Word) (n : Nat) (s : State) : (State.idmaWrites cfg a n s).seqStep = s.seqStep := rfl
@[simp] theorem State.idmaWrites_seqIter (cfg : Cfg) (a : Word) (n : Nat) (s : State) : (State.idmaWrites cfg a n s).seqIter = s.seqIter := rfl
@[simp] theorem State.idmaWrites_ctrl (cfg : Cfg) (a : Word) (n : Nat) (s : State) : (State.idmaWrites cfg a n s).ctrl = s.ctrl := rfl
@[simp] theorem State.idmaWrites_mem (cfg : Cfg) (a : Word) (n : Nat) (s : State) : (State.idmaWrites cfg a n s).mem = Memory.fillFree cfg s.mem a s.draws n := rfl
@[simp] theorem State.idmaWrites_hostRequests (cfg : Cfg) (a : Word) (n : Nat) (s : State) : (State.idmaWrites cfg a n s).hostRequests = s.hostRequests := rfl
@[simp] theorem State.idmaWrites_ctrlAnswers (cfg : Cfg) (a : Word) (n : Nat) (s : State) : (State.idmaWrites cfg a n s).ctrlAnswers = s.ctrlAnswers := rfl
@[simp] theorem State.idmaWrites_draws (cfg : Cfg) (a : Word) (n : Nat) (s : State) : (State.idmaWrites cfg a n s).draws = s.draws + n := rfl
@[simp] theorem State.idmaWrites_trace (cfg : Cfg) (a : Word) (n : Nat) (s : State) : (State.idmaWrites cfg a n s).trace = s.trace := rfl
@[simp] theorem State.idmaWrites_completion (cfg : Cfg) (a : Word) (n : Nat) (s : State) : (State.idmaWrites cfg a n s).completion = s.completion := rfl

@[simp] theorem usageFault_latchOpcode (why : UsageReason) (s : State) : (usageFault why s).latchOpcode = s.latchOpcode := rfl
@[simp] theorem usageFault_latchArg (why : UsageReason) (s : State) : (usageFault why s).latchArg = s.latchArg := rfl
@[simp] theorem usageFault_pending (why : UsageReason) (s : State) : (usageFault why s).pending = s.pending := rfl
@[simp] theorem usageFault_nextIsAcmd (why : UsageReason) (s : State) : (usageFault why s).nextIsAcmd = s.nextIsAcmd := rfl
@[simp] theorem usageFault_phase (why : UsageReason) (s : State) : (usageFault why s).phase = s.phase := rfl
@[simp] theorem usageFault_seqStep (why : UsageReason) (s : State) : (usageFault why s).seqStep = s.seqStep := rfl
@[simp] theorem usageFault_seqIter (why : UsageReason) (s : State) : (usageFault why s).seqIter = s.seqIter := rfl
@[simp] theorem usageFault_ctrl (why : UsageReason) (s : State) : (usageFault why s).ctrl = s.ctrl := rfl
@[simp] theorem usageFault_mem (why : UsageReason) (s : State) : (usageFault why s).mem = s.mem := rfl
@[simp] theorem usageFault_hostRequests (why : UsageReason) (s : State) : (usageFault why s).hostRequests = s.hostRequests := rfl
@[simp] theorem usageFault_ctrlAnswers (why : UsageReason) (s : State) : (usageFault why s).ctrlAnswers = s.ctrlAnswers := rfl
@[simp] theorem usageFault_draws (why : UsageReason) (s : State) : (usageFault why s).draws = s.draws := rfl
@[simp] theorem usageFault_trace (why : UsageReason) (s : State) : (usageFault why s).trace = s.trace := rfl
@[simp] theorem usageFault_completion (why : UsageReason) (s : State) : (usageFault why s).completion = some (Completion.usage why) := rfl

@[simp] theorem finish_latchOpcode (st : Status) (s : State) : (finish st s).latchOpcode = s.latchOpcode := rfl
@[simp] theorem finish_latchArg (st : Status) (s : State) : (finish st s).latchArg = s.latchArg := rfl
@[simp] theorem finish_pending (st : Status) (s : State) : (finish st s).pending = s.pending := rfl
@[simp] theorem finish_nextIsAcmd (st : Status) (s : State) : (finish st s).nextIsAcmd = s.nextIsAcmd := rfl
@[simp] theorem finish_phase (st : Status) (s : State) : (finish st s).phase = s.phase := rfl
@[simp] theorem finish_seqStep (st : Status) (s : State) : (finish st s).seqStep = .none := rfl
@[simp] theorem finish_seqIter (st : Status) (s : State) : (finish st s).seqIter = 0 := rfl
@[simp] theorem finish_ctrl (st : Status) (s : State) : (finish st s).ctrl = s.ctrl := rfl
@[simp] theorem finish_mem (st : Status) (s : State) : (finish st s).mem = s.mem := rfl
@[simp] theorem finish_hostRequests (st : Status) (s : State) : (finish st s).hostRequests = s.hostRequests := rfl
@[simp] theorem finish_ctrlAnswers (st : Status) (s : State) : (finish st s).ctrlAnswers = s.ctrlAnswers := rfl
@[simp] theorem finish_draws (st : Status) (s : State) : (finish st s).draws = s.draws := rfl
@[simp] theorem finish_trace (st : Status) (s : State) : (finish st s).trace = s.trace := rfl
@[simp] theorem finish_completion (st : Status) (s : State) : (finish st s).completion = some (Completion.of st 0) := rfl

/-! ### A register read -/

/-- With an answer waiting, a read returns it. -/
theorem State.answer_cons {s : State} {v : Word} {rest : List Word} (h : s.ctrlAnswers = v :: rest) (r : Reg) :
    s.answer r = v := by simp [State.answer, h]

@[simp] theorem State.afterRead_latchOpcode (s : State) (r : Reg) : (s.afterRead r).latchOpcode = s.latchOpcode := by
  unfold State.afterRead; split <;> rfl

@[simp] theorem State.afterRead_latchArg (s : State) (r : Reg) : (s.afterRead r).latchArg = s.latchArg := by
  unfold State.afterRead; split <;> rfl

@[simp] theorem State.afterRead_pending (s : State) (r : Reg) : (s.afterRead r).pending = s.pending := by
  unfold State.afterRead; split <;> rfl

@[simp] theorem State.afterRead_nextIsAcmd (s : State) (r : Reg) : (s.afterRead r).nextIsAcmd = s.nextIsAcmd := by
  unfold State.afterRead; split <;> rfl

@[simp] theorem State.afterRead_phase (s : State) (r : Reg) : (s.afterRead r).phase = s.phase := by
  unfold State.afterRead; split <;> rfl

@[simp] theorem State.afterRead_seqStep (s : State) (r : Reg) : (s.afterRead r).seqStep = s.seqStep := by
  unfold State.afterRead; split <;> rfl

@[simp] theorem State.afterRead_seqIter (s : State) (r : Reg) : (s.afterRead r).seqIter = s.seqIter := by
  unfold State.afterRead; split <;> rfl

@[simp] theorem State.afterRead_ctrl (s : State) (r : Reg) : (s.afterRead r).ctrl = s.ctrl := by
  unfold State.afterRead; split <;> rfl

@[simp] theorem State.afterRead_mem (s : State) (r : Reg) : (s.afterRead r).mem = s.mem := by
  unfold State.afterRead; split <;> rfl

@[simp] theorem State.afterRead_hostRequests (s : State) (r : Reg) : (s.afterRead r).hostRequests = s.hostRequests := by
  unfold State.afterRead; split <;> rfl

@[simp] theorem State.afterRead_completion (s : State) (r : Reg) : (s.afterRead r).completion = s.completion := by
  unfold State.afterRead; split <;> rfl

@[simp] theorem State.afterRead_trace (s : State) (r : Reg) :
    (s.afterRead r).trace = s.trace ++ [.rd r (s.answer r)] := by
  unfold State.afterRead State.answer; split <;> rfl

@[simp] theorem State.afterRead_ctrlAnswers (s : State) (r : Reg) : (s.afterRead r).ctrlAnswers = s.ctrlAnswers.tail := by
  unfold State.afterRead; split <;> simp_all

@[simp] theorem State.afterRead_draws (s : State) (r : Reg) :
    (s.afterRead r).draws = s.draws + (if s.ctrlAnswers = [] then 1 else 0) := by
  unfold State.afterRead; split <;> simp_all

/-- With an answer waiting, a read takes it and records the event. -/
theorem State.afterRead_cons {s : State} {v : Word} {rest : List Word} (h : s.ctrlAnswers = v :: rest) (r : Reg) :
    s.afterRead r = (s.setAnswers rest).emit (.rd r v) := by simp [State.afterRead, h]

/-- The next answer depends only on what CTRL has still to say, the count of draws and the registers written. -/
theorem State.answer_congr {s t : State} (ha : s.ctrlAnswers = t.ctrlAnswers) (hd : s.draws = t.draws)
    (hc : s.ctrl = t.ctrl) (r : Reg) : s.answer r = t.answer r := by
  simp [State.answer, ha, hd, hc]

/-! ### The controller's registers -/

/-- A register reads back what was written to it, every other register what it held. -/
theorem CtrlRegs.get_set (c : CtrlRegs) (r r' : Reg) (v : Word) :
    (c.set r v).get r' = if r' = r then v else c.get r' := by
  cases r <;> cases r' <;> rfl

end Sys2Proof.Machine
end

