-- ==== Sys2Proof/Laws/Memory.lean ====
section
/-! SUPPORT. The laws of system memory: read after write, and that every operation keeps the canonical form. -/

namespace Sys2Proof.Machine

@[simp] theorem Memory.read_nil (x : Nat) : Memory.read [] x = none := rfl

/-- A read after a write: the byte written at that address, what was there at every other. -/
theorem Memory.read_write (m : Memory) (x y : Nat) (v : Byte) :
    Memory.read (Memory.write m x v) y = if y = x then some v else Memory.read m y := by
  induction m with
  | nil => simp [Memory.write, Memory.read]
  | cons c rest ih =>
    obtain ⟨a, b⟩ := c
    by_cases h1 : x < a
    · simp [Memory.write, h1, Memory.read]
    · by_cases h2 : x = a
      · subst h2
        by_cases hy : y = x <;> simp [Memory.write, Memory.read, hy]
      · by_cases hy : y = a
        · subst hy
          simp [Memory.write, Memory.read, h1, h2, Ne.symm h2]
        · simp [Memory.write, Memory.read, h1, h2, hy, ih]

/-- The addresses after a write are the old ones and the one written. -/
theorem Memory.mem_write {m : Memory} {x : Nat} {v : Byte} {c : Host.Cell} (h : c ∈ Memory.write m x v) :
    c = (x, v) ∨ c ∈ m := by
  induction m with
  | nil => simpa [Memory.write] using h
  | cons d rest ih =>
    obtain ⟨a, b⟩ := d
    unfold Memory.write at h
    split at h
    · simpa using h
    · split at h
      · rcases List.mem_cons.1 h with h | h <;> simp [h]
      · rcases List.mem_cons.1 h with h | h
        · simp [h]
        · rcases ih h with h | h <;> simp [h]

/-- A write inside the address space keeps the canonical form. -/
theorem Memory.write_wf {m : Memory} {x : Nat} (v : Byte) (h : Memory.wf m) (hx : x < 2 ^ settings.addrBits.val) :
    Memory.wf (Memory.write m x v) := by
  obtain ⟨hs, hb⟩ := h
  refine ⟨?_, fun c hc => ?_⟩
  · clear hb
    induction m with
    | nil => simp [Memory.write]
    | cons d rest ih =>
      obtain ⟨a, b⟩ := d
      rw [List.map_cons, List.pairwise_cons] at hs
      obtain ⟨h1, h2⟩ := hs
      unfold Memory.write
      split
      · rename_i hlt
        refine List.pairwise_cons.2 ⟨fun y hy => ?_, List.pairwise_cons.2 ⟨h1, h2⟩⟩
        rcases List.mem_cons.1 hy with rfl | hy
        · exact hlt
        · exact Nat.lt_trans hlt (h1 y hy)
      · split
        · rename_i heq
          subst heq
          exact List.pairwise_cons.2 ⟨h1, h2⟩
        · rename_i hn hne
          refine List.pairwise_cons.2 ⟨fun y hy => ?_, ih h2⟩
          obtain ⟨c, hc, rfl⟩ := List.mem_map.1 hy
          rcases Memory.mem_write hc with rfl | hc
          · exact lt_of_le_of_ne (not_lt.1 hn) (Ne.symm hne)
          · exact h1 c.1 (List.mem_map.2 ⟨c, hc, rfl⟩)
  · rcases Memory.mem_write hc with rfl | hc
    · exact hx
    · exact hb c hc

theorem byteAddress_lt (cfg : Cfg) (a : Word) (k : Nat) : byteAddress cfg a k < 2 ^ cfg.addrBits.val :=
  Nat.mod_lt _ (Nat.two_pow_pos _)

/-- In the machine's configuration a byte address is a sum of 32-bit words (20_memory.md R42). -/
theorem byteAddress_settings (a : Word) (k : Nat) : byteAddress settings a k = (a + BitVec.ofNat 32 k).toNat := by
  rw [BitVec.toNat_add, BitVec.toNat_ofNat, Nat.add_mod_mod]
  rfl

/-- Two offsets inside the address space from one address give one byte address only if they are equal. -/
theorem byteAddress_inj {cfg : Cfg} {a : Word} {j k : Nat} (hj : j < 2 ^ cfg.addrBits.val)
    (hk : k < 2 ^ cfg.addrBits.val) (h : byteAddress cfg a j = byteAddress cfg a k) : j = k :=
  (Nat.ModEq.add_left_cancel' a.toNat h).eq_of_lt_of_lt hj hk

/-- A 32-bit write, byte by byte. -/
theorem Memory.read_writeWord (cfg : Cfg) (m : Memory) (a v : Word) (y : Nat) :
    Memory.read (Memory.writeWord cfg m a v) y =
      if y = byteAddress cfg a 3 then some (byteOf v 3)
      else if y = byteAddress cfg a 2 then some (byteOf v 2)
      else if y = byteAddress cfg a 1 then some (byteOf v 1)
      else if y = byteAddress cfg a 0 then some (byteOf v 0)
      else Memory.read m y := by
  simp only [Memory.writeWord, Memory.read_write]

/-- A 32-bit write keeps the canonical form. -/
theorem Memory.writeWord_wf {m : Memory} (a v : Word) (h : Memory.wf m) :
    Memory.wf (Memory.writeWord settings m a v) :=
  Memory.write_wf _ (Memory.write_wf _ (Memory.write_wf _ (Memory.write_wf _ h (byteAddress_lt _ _ _))
    (byteAddress_lt _ _ _)) (byteAddress_lt _ _ _)) (byteAddress_lt _ _ _)

/-- A 32-bit write leaves every address but its four bytes as it was. -/
theorem Memory.read_writeWord_of_ne {cfg : Cfg} {m : Memory} {a v : Word} {y : Nat}
    (h : ∀ k < 4, y ≠ byteAddress cfg a k) : Memory.read (Memory.writeWord cfg m a v) y = Memory.read m y := by
  rw [Memory.read_writeWord, if_neg (h 3 (by decide)), if_neg (h 2 (by decide)), if_neg (h 1 (by decide)),
    if_neg (h 0 (by decide))]

/-- Each of the four bytes of a 32-bit write reads back. -/
theorem Memory.read_writeWord_self {m : Memory} {a v : Word} {k : Nat} (hk : k < 4) :
    Memory.read (Memory.writeWord settings m a v) (byteAddress settings a k) = some (byteOf v k) := by
  have lt : ∀ j < 4, j < 2 ^ settings.addrBits.val := fun j hj => lt_of_lt_of_le hj (by decide)
  have inj : ∀ j < 4, byteAddress settings a k = byteAddress settings a j → k = j :=
    fun j hj h => byteAddress_inj (lt k hk) (lt j hj) h
  rw [Memory.read_writeWord]
  split_ifs with h3 h2 h1 h0
  · rw [inj 3 (by decide) h3]
  · rw [inj 2 (by decide) h2]
  · rw [inj 1 (by decide) h1]
  · rw [inj 0 (by decide) h0]
  · interval_cases k <;> contradiction

/-- What IDMA leaves keeps the canonical form. -/
theorem Memory.fillFree_wf {m : Memory} (a : Word) (first n : Nat) (h : Memory.wf m) :
    Memory.wf (Memory.fillFree settings m a first n) := by
  induction n with
  | zero => exact h
  | succ k ih => exact Memory.write_wf _ ih (byteAddress_lt _ _ _)

/-- IDMA touches no address outside its range. -/
theorem Memory.read_fillFree_of_ne {cfg : Cfg} {m : Memory} {a : Word} {first n y : Nat}
    (h : ∀ k < n, y ≠ byteAddress cfg a k) :
    Memory.read (Memory.fillFree cfg m a first n) y = Memory.read m y := by
  induction n with
  | zero => rfl
  | succ k ih =>
    rw [Memory.fillFree, Memory.read_write, if_neg (h k (Nat.lt_succ_self k))]
    exact ih fun j hj => h j (Nat.lt_succ_of_lt hj)

/-- Byte `k` of the range IDMA writes is free value number `first + k`. -/
theorem Memory.read_fillFree {cfg : Cfg} {m : Memory} {a : Word} {first n k : Nat} (hk : k < n)
    (hn : n ≤ 2 ^ cfg.addrBits.val) :
    Memory.read (Memory.fillFree cfg m a first n) (byteAddress cfg a k) = some (Config.idmaByte (first + k)) := by
  induction n with
  | zero => omega
  | succ j ih =>
    rw [Memory.fillFree, Memory.read_write]
    split_ifs with h
    · rw [byteAddress_inj (by omega) (by omega) h]
    · exact ih (lt_of_le_of_ne (Nat.lt_succ_iff.1 hk) fun e => h (by rw [e])) (by omega)

end Sys2Proof.Machine
end

