-- ==== Sys2Proof/Laws/Run.lean ====
section
/-! SUPPORT. What a sub-sequence of an operation can do, said once: `Kept` for the state it leaves alone, `Ran` for
the events it performs. Each shared operation of Machine/Ops.lean and Machine/Protocol.lean has its lemma of each. -/

namespace Sys2Proof.Machine

/-! ### Lists of events -/

@[simp] theorem delays_nil : delays [] = 0 := rfl

theorem delays_append (xs ys : List Event) : delays (xs ++ ys) = delays xs + delays ys := List.countP_append

@[simp] theorem lastWritten_nil (c : CtrlRegs) : lastWritten [] c = c := rfl

theorem lastWritten_append (xs ys : List Event) (c : CtrlRegs) :
    lastWritten (xs ++ ys) c = lastWritten ys (lastWritten xs c) := List.foldl_append

@[simp] theorem blockLengthFailures_nil : blockLengthFailures [] = [] := rfl

theorem blockLengthFailures_append (xs ys : List Event) :
    blockLengthFailures (xs ++ ys) = blockLengthFailures xs ++ blockLengthFailures ys := List.filterMap_append

/-- Events that SEND_COMMAND may perform log no set-block-length failure. -/
theorem blockLengthFailures_of_command {evs : List Event} (h : ∀ e ∈ evs, mayPerform .command e = true) :
    blockLengthFailures evs = [] := by
  refine List.filterMap_eq_nil_iff.2 fun e he => ?_
  have hp := h e he
  cases e with
  | log l => cases l <;> first | rfl | exact nomatch hp
  | _ => rfl

@[simp] theorem issued_nil : issued [] = [] := rfl

/-- An event that does not write the argument register starts no command. -/
theorem issued_cons {e : Event} (h : ∀ a, e ≠ .wr .arg a) (rest : List Event) : issued (e :: rest) = issued rest := by
  cases rest with
  | nil => cases e <;> rfl
  | cons e' rest =>
    conv_lhs => unfold issued
    split
    · exact absurd rfl (h _)
    · rfl

/-- A write of the argument register with the write of the command register after it is one command. -/
theorem issued_pair (a w : Word) (rest : List Event) :
    issued (.wr .arg a :: .wr .cmd w :: rest) = (a, w) :: issued rest := by
  rw [issued, issued_cons (fun b => by simp)]

/-! ### What is left alone -/

/-- `t` has the latch, the phase, the memory, the waiting requests and the completion port of `s`. -/
structure Kept (s t : State) : Prop where
  latchOpcode : t.latchOpcode = s.latchOpcode
  latchArg : t.latchArg = s.latchArg
  pending : t.pending = s.pending
  phase : t.phase = s.phase
  mem : t.mem = s.mem
  hostRequests : t.hostRequests = s.hostRequests
  completion : t.completion = s.completion

theorem Kept.refl (s : State) : Kept s s := ⟨rfl, rfl, rfl, rfl, rfl, rfl, rfl⟩

theorem Kept.trans {s t u : State} (h : Kept s t) (k : Kept t u) : Kept s u :=
  ⟨k.1.trans h.1, k.2.trans h.2, k.3.trans h.3, k.4.trans h.4, k.5.trans h.5, k.6.trans h.6, k.7.trans h.7⟩

/-- The marker and the latch-side fields are as before, whatever SEQ, the ports and the trace did. -/
structure KeptMarker (s t : State) : Prop extends Kept s t where
  nextIsAcmd : t.nextIsAcmd = s.nextIsAcmd

theorem KeptMarker.refl (s : State) : KeptMarker s s := ⟨Kept.refl s, rfl⟩

theorem KeptMarker.trans {s t u : State} (h : KeptMarker s t) (k : KeptMarker t u) : KeptMarker s u :=
  ⟨h.toKept.trans k.toKept, k.2.trans h.2⟩

theorem kept_atRule (n : Nat) (s : State) : KeptMarker s (s.atRule n) := ⟨⟨rfl, rfl, rfl, rfl, rfl, rfl, rfl⟩, rfl⟩

theorem kept_setIter (n : Nat) (s : State) : KeptMarker s (s.setIter n) := ⟨⟨rfl, rfl, rfl, rfl, rfl, rfl, rfl⟩, rfl⟩

theorem kept_emit (e : Event) (s : State) : KeptMarker s (s.emit e) := ⟨⟨rfl, rfl, rfl, rfl, rfl, rfl, rfl⟩, rfl⟩

theorem kept_regWrite (r : Reg) (v : Word) (s : State) : KeptMarker s (s.regWrite r v) :=
  ⟨⟨rfl, rfl, rfl, rfl, rfl, rfl, rfl⟩, rfl⟩

theorem kept_afterRead (s : State) (r : Reg) : KeptMarker s (s.afterRead r) := by
  constructor <;> first | constructor <;> simp | simp

theorem kept_setMarker (b : Bool) (s : State) : Kept s (s.setMarker b) := ⟨rfl, rfl, rfl, rfl, rfl, rfl, rfl⟩

/-! ### What is performed -/

/-- From `s` to `t` the block performed events that the table allows an operation of group `g`, with at most `n`
delays, issuing the commands `cmds` in order; the controller's registers are what those events wrote. -/
structure Ran (g : AccessGroup) (n : Nat) (cmds : List (Word × Word)) (s t : State) : Prop where
  events : ∃ evs, t.trace = s.trace ++ evs ∧ (∀ e ∈ evs, mayPerform g e = true) ∧ delays evs ≤ n ∧
    t.ctrl = lastWritten evs s.ctrl ∧ ∀ rest, issued (evs ++ rest) = cmds ++ issued rest

/-- A step that performs nothing. -/
theorem Ran.silent {g : AccessGroup} {s t : State} (h : t.trace = s.trace) (hc : t.ctrl = s.ctrl) : Ran g 0 [] s t :=
  ⟨[], by simp [h], by simp, le_rfl, by simp [hc], fun _ => rfl⟩

theorem Ran.refl (g : AccessGroup) (s : State) : Ran g 0 [] s s := Ran.silent rfl rfl

theorem Ran.trans {g : AccessGroup} {n m : Nat} {cs ds : List (Word × Word)} {s t u : State} (h : Ran g n cs s t)
    (k : Ran g m ds t u) : Ran g (n + m) (cs ++ ds) s u := by
  obtain ⟨xs, hx, px, dx, cx, ix⟩ := h.events
  obtain ⟨ys, hy, py, dy, cy, iy⟩ := k.events
  refine ⟨xs ++ ys, by rw [hy, hx, List.append_assoc], fun e he => ?_, ?_, ?_, fun rest => ?_⟩
  · exact (List.mem_append.1 he).elim (px e) (py e)
  · rw [delays_append]; exact Nat.add_le_add dx dy
  · rw [cy, cx, lastWritten_append]
  · rw [List.append_assoc, ix, iy, List.append_assoc]

theorem Ran.mono {g : AccessGroup} {n m : Nat} {cs : List (Word × Word)} {s t : State} (h : Ran g n cs s t)
    (hn : n ≤ m) : Ran g m cs s t := by
  obtain ⟨xs, hx, px, dx, r⟩ := h.events
  exact ⟨xs, hx, px, dx.trans hn, r⟩

/-- A silent step before. -/
theorem Ran.before {g : AccessGroup} {n : Nat} {cs : List (Word × Word)} {s t u : State} (k : Ran g n cs t u)
    (ht : t.trace = s.trace) (hc : t.ctrl = s.ctrl) : Ran g n cs s u := by
  obtain ⟨ys, hy, r⟩ := k.events
  rw [ht] at hy
  rw [hc] at r
  exact ⟨ys, hy, r⟩

/-- A silent step after. -/
theorem Ran.after {g : AccessGroup} {n : Nat} {cs : List (Word × Word)} {s t u : State} (h : Ran g n cs s t)
    (ht : u.trace = t.trace) (hc : u.ctrl = t.ctrl) : Ran g n cs s u := by
  obtain ⟨ys, hy, r⟩ := h.events
  rw [← ht] at hy
  rw [← hc] at r
  exact ⟨ys, hy, r⟩

/-- The sequencer's position before is no event. -/
theorem Ran.of_atRule {g : AccessGroup} {n j : Nat} {cs : List (Word × Word)} {s u : State}
    (k : Ran g n cs (s.atRule j) u) : Ran g n cs s u := k.before rfl rfl

/-- The sequencer's position after is no event. -/
theorem Ran.to_atRule {g : AccessGroup} {n : Nat} {cs : List (Word × Word)} {s t : State} (h : Ran g n cs s t)
    (j : Nat) : Ran g n cs s (t.atRule j) := h.after rfl rfl

/-- Every register the table does not let the group write keeps the word last written to it. -/
theorem Ran.get_of_not_mayWrite {g : AccessGroup} {n : Nat} {cs : List (Word × Word)} {s t : State}
    (h : Ran g n cs s t) {r : Reg} (hr : mayWrite g r = false) : t.ctrl.get r = s.ctrl.get r := by
  obtain ⟨evs, -, p, -, hc, -⟩ := h.events
  rw [hc]
  clear hc
  generalize s.ctrl = c
  induction evs generalizing c with
  | nil => rfl
  | cons e rest ih =>
    have hp := p e (List.mem_cons_self ..)
    have hrest := ih (fun x hx => p x (List.mem_cons_of_mem _ hx))
    rw [show lastWritten (e :: rest) c = lastWritten rest (lastWritten [e] c) from lastWritten_append [e] rest c, hrest]
    cases e with
    | wr q v =>
      have hne : r ≠ q := by
        rintro rfl
        simp [mayPerform, hr] at hp
      simp [lastWritten, CtrlRegs.get_set, hne]
    | _ => rfl

theorem ran_emit {g : AccessGroup} {e : Event} (s : State) (hp : mayPerform g e = true) (hw : ∀ r v, e ≠ .wr r v)
    (hd : e ≠ .dly) : Ran g 0 [] s (s.emit e) := by
  refine ⟨[e], rfl, by simpa using hp, ?_, ?_, fun rest => issued_cons (fun a => hw _ a) rest⟩
  · simp [delays, hd]
  · cases e <;> first | rfl | exact absurd rfl (hw _ _)

theorem ran_delay {g : AccessGroup} (s : State) (hp : mayPerform g .dly = true) : Ran g 1 [] s s.delay :=
  ⟨[.dly], rfl, by simpa using hp, by simp [delays], rfl, fun rest => issued_cons (by simp) rest⟩

theorem ran_afterRead {g : AccessGroup} (s : State) {r : Reg} (hp : mayRead g r = true) :
    Ran g 0 [] s (s.afterRead r) :=
  ⟨[.rd r (s.answer r)], by simp, by simpa [mayPerform] using hp, by simp [delays], by simp [lastWritten],
    fun rest => issued_cons (by simp) rest⟩

theorem ran_regWrite {g : AccessGroup} {r : Reg} (v : Word) (s : State) (hp : mayWrite g r = true) (hr : r ≠ .arg) :
    Ran g 0 [] s (s.regWrite r v) :=
  ⟨[.wr r v], rfl, by simpa [mayPerform] using hp, by simp [delays], rfl,
    fun rest => issued_cons (by simp [hr]) rest⟩

/-- Step 7: the pair of writes that issues a command (40_command_dispatch.md R110). -/
theorem ran_issue {g : AccessGroup} (a w : Word) (s : State) (ha : mayWrite g .arg = true)
    (hc : mayWrite g .cmd = true) : Ran g 0 [(a, w)] s ((s.regWrite .arg a).regWrite .cmd w) :=
  ⟨[.wr .arg a, .wr .cmd w], by simp, by simp [mayPerform, ha, hc], by simp [delays], rfl,
    fun rest => issued_pair a w rest⟩

/-! ### What is logged of set-block-length -/

/-- From `s` to `t` the trace grew by events that log exactly the set-block-length failures `fails`. -/
structure Failed (fails : List Status) (s t : State) : Prop where
  events : ∃ evs, t.trace = s.trace ++ evs ∧ blockLengthFailures evs = fails

theorem Failed.trans {fs gs : List Status} {s t u : State} (h : Failed fs s t) (k : Failed gs t u) :
    Failed (fs ++ gs) s u := by
  obtain ⟨xs, hx, fx⟩ := h.events
  obtain ⟨ys, hy, fy⟩ := k.events
  exact ⟨xs ++ ys, by rw [hy, hx, List.append_assoc], by rw [blockLengthFailures_append, fx, fy]⟩

/-- A silent step after. -/
theorem Failed.after {fs : List Status} {s t u : State} (h : Failed fs s t) (ht : u.trace = t.trace) :
    Failed fs s u := by
  obtain ⟨xs, hx, fx⟩ := h.events
  exact ⟨xs, ht.trans hx, fx⟩

theorem failed_log (st : Status) (s : State) : Failed [st] s (s.log (.setBlockLenFailed st)) :=
  ⟨[.log (.setBlockLenFailed st)], rfl, rfl⟩

/-- What SEND_COMMAND may perform logs no set-block-length failure. -/
theorem Ran.failed {n : Nat} {cs : List (Word × Word)} {s t : State} (h : Ran .command n cs s t) : Failed [] s t := by
  obtain ⟨xs, hx, px, -⟩ := h.events
  exact ⟨xs, hx, blockLengthFailures_of_command px⟩

end Sys2Proof.Machine
end

