-- ==== Sys2Proof/Laws/Protocol.lean ====
section
/-! SUPPORT. What each step of DISPATCH and CONFIGURE can do: one `kept` and one `ran` lemma for each, the marker it
leaves and the statuses it can answer (spec/40_command_dispatch.md, spec/41_data_path.md). -/

namespace Sys2Proof.Machine

/-- DISPATCH runs in SEND_COMMAND and in READ_BLOCK, and the table lets both make the accesses it makes. -/
abbrev Dispatches (g : AccessGroup) : Prop := g = .command ∨ g = .block

/-! ### POLL -/

theorem pollLoop_kept (mask : Word) (left : Nat) (last : Word) (s : State) :
    KeptMarker s (pollLoop mask left last s).state := by
  induction left generalizing last s with
  | zero => exact KeptMarker.refl s
  | succ k ih =>
    unfold pollLoop
    dsimp only
    split
    · exact kept_afterRead s .sta
    · exact (kept_afterRead s .sta).trans (((kept_emit _ _).trans (kept_setIter _ _)).trans (ih ..))

theorem poll_kept (mask : Word) (iters : Nat) (s : State) : KeptMarker s (poll mask iters s).state :=
  (kept_setIter 0 s).trans (pollLoop_kept ..)

theorem pollLoop_ran {g : AccessGroup} (hg : Dispatches g) (mask : Word) (left : Nat) (last : Word) (s : State) :
    Ran g left [] s (pollLoop mask left last s).state := by
  have hr : mayRead g .sta = true := by rcases hg with rfl | rfl <;> rfl
  have hd : mayPerform g .dly = true := by rcases hg with rfl | rfl <;> rfl
  induction left generalizing last s with
  | zero => exact Ran.refl g s
  | succ k ih =>
    unfold pollLoop
    dsimp only
    split
    · exact (ran_afterRead s hr).mono (Nat.zero_le _)
    · have h1 : Ran g 1 [] s (s.afterRead .sta).delay := by
        simpa using (ran_afterRead s hr).trans (ran_delay _ hd)
      have h2 := ih (s.answer .sta) ((s.afterRead .sta).delay.setIter ((s.afterRead .sta).seqIter + 1))
      simpa [Nat.add_comm] using h1.trans (h2.before rfl rfl)

theorem poll_ran {g : AccessGroup} (hg : Dispatches g) (mask : Word) (iters : Nat) (s : State) :
    Ran g iters [] s (poll mask iters s).state := (pollLoop_ran hg ..).before rfl rfl

/-- A hit shows a snapshot with an awaited bit. -/
theorem pollLoop_hit {mask : Word} {left : Nat} {last : Word} {s : State} (h : (pollLoop mask left last s).hit = true) :
    (pollLoop mask left last s).sta &&& mask ≠ 0 := by
  induction left generalizing last s with
  | zero => simp [pollLoop] at h
  | succ k ih =>
    unfold pollLoop at h ⊢
    dsimp only at h ⊢
    by_cases hm : s.answer .sta &&& mask ≠ 0
    · rw [if_pos hm]
      exact hm
    · rw [if_neg hm] at h ⊢
      exact ih h

/-! ### Steps 1 to 7 -/

theorem engineDisable_kept (cfg : Cfg) (s : State) : KeptMarker s (engineDisable cfg s) := by
  unfold engineDisable
  have h := (kept_atRule 104 s).trans (kept_afterRead (s.atRule 104) .cmd)
  dsimp only
  split
  · exact h.trans (kept_regWrite ..)
  · exact h

theorem engineDisable_ran {g : AccessGroup} (hg : Dispatches g) (cfg : Cfg) (s : State) :
    Ran g 0 [] s (engineDisable cfg s) := by
  have hr : mayRead g .cmd = true := by rcases hg with rfl | rfl <;> rfl
  have hw : mayWrite g .cmd = true := by rcases hg with rfl | rfl <;> rfl
  have h : Ran g 0 [] s ((s.atRule 104).afterRead .cmd) := (ran_afterRead (s.atRule 104) hr).before rfl rfl
  unfold engineDisable
  dsimp only
  split
  · exact h.trans (ran_regWrite 0 _ hw (by decide))
  · exact h

theorem clearDataControl_kept (d : CommandDescriptor) (s : State) : KeptMarker s (clearDataControl d s) := by
  unfold clearDataControl
  dsimp only
  split
  · exact (kept_atRule 109 s).trans (kept_regWrite ..)
  · exact kept_atRule 109 s

theorem clearDataControl_ran {g : AccessGroup} (hg : Dispatches g) (d : CommandDescriptor) (s : State) :
    Ran g 0 [] s (clearDataControl d s) := by
  have hw : mayWrite g .dctrl = true := by rcases hg with rfl | rfl <;> rfl
  unfold clearDataControl
  dsimp only
  split
  · exact (ran_regWrite 0 (s.atRule 109) hw (by decide)).before rfl rfl
  · exact Ran.silent rfl rfl

theorem issueCommand_kept (cfg : Cfg) (d : CommandDescriptor) (s : State) : KeptMarker s (issueCommand cfg d s) :=
  ((kept_atRule 108 s).trans (kept_regWrite ..)).trans ((clearDataControl_kept d _).trans
    ((kept_atRule 110 _).trans ((kept_regWrite ..).trans (kept_regWrite ..))))

theorem issueCommand_ran {g : AccessGroup} (hg : Dispatches g) (cfg : Cfg) (d : CommandDescriptor) (s : State) :
    Ran g 0 [(augment cfg d.idx d.arg, controlWord cfg d.idx d.kind d.trans d.stop)] s (issueCommand cfg d s) := by
  have hi : mayWrite g .icr = true := by rcases hg with rfl | rfl <;> rfl
  have ha : mayWrite g .arg = true := by rcases hg with rfl | rfl <;> rfl
  have hc : mayWrite g .cmd = true := by rcases hg with rfl | rfl <;> rfl
  have h1 : Ran g 0 [] s ((s.atRule 108).regWrite .icr cfg.staticFlags) :=
    (ran_regWrite cfg.staticFlags (s.atRule 108) hi (by decide)).before rfl rfl
  have h2 := (h1.trans (clearDataControl_ran hg d _)).after
    (u := (clearDataControl d ((s.atRule 108).regWrite .icr cfg.staticFlags)).atRule 110) rfl rfl
  exact h2.trans (ran_issue _ _ _ ha hc)

/-! ### Steps 8 to 12 -/

theorem logCommand_kept (cfg : Cfg) (idx : Idx) (st : Status) (s : State) : KeptMarker s (logCommand cfg idx st s) := by
  unfold logCommand
  split
  · split
    · exact KeptMarker.refl s
    · exact kept_emit ..
  · exact kept_emit ..
  · exact KeptMarker.refl s

theorem logCommand_ran {g : AccessGroup} (hg : Dispatches g) (cfg : Cfg) (idx : Idx) (st : Status) (s : State) :
    Ran g 0 [] s (logCommand cfg idx st s) := by
  have hl : mayPerform g (.log (.commandError st idx)) = true := by rcases hg with rfl | rfl <;> rfl
  unfold logCommand
  split
  · split
    · exact Ran.refl g s
    · exact ran_emit s hl (by simp) (by simp)
  · exact ran_emit s hl (by simp) (by simp)
  · exact Ran.refl g s

theorem logData_kept (idx : Idx) (st : Status) (s : State) : KeptMarker s (logData idx st s) := by
  unfold logData
  split
  · exact KeptMarker.refl s
  · exact kept_emit ..

theorem logData_ran {g : AccessGroup} (hg : Dispatches g) (idx : Idx) (st : Status) (s : State) :
    Ran g 0 [] s (logData idx st s) := by
  have hl : mayPerform g (.log (.commandError st idx)) = true := by rcases hg with rfl | rfl <;> rfl
  unfold logData
  split
  · exact Ran.refl g s
  · exact ran_emit s hl (by simp) (by simp)

theorem commandPhase_kept (cfg : Cfg) (d : CommandDescriptor) (s : State) :
    KeptMarker s (commandPhase cfg d s).state :=
  (kept_atRule 111 s).trans ((poll_kept ..).trans ((kept_atRule 113 _).trans (logCommand_kept ..)))

theorem commandPhase_ran {g : AccessGroup} (hg : Dispatches g) (cfg : Cfg) (d : CommandDescriptor) (s : State) :
    Ran g cfg.cmdPollIters [] s (commandPhase cfg d s).state :=
  Ran.of_atRule (j := 111) (((poll_ran hg ..).to_atRule 113).trans (logCommand_ran hg ..))

/-- The three statuses of a command phase (40_command_dispatch.md R112). -/
theorem classifyCommand_cases (cfg : Cfg) (mask : Word) (hit : Bool) (sta : Word) :
    classifyCommand cfg mask hit sta = .success ∨ classifyCommand cfg mask hit sta = .commandTimeout ∨
      classifyCommand cfg mask hit sta = .crcFailure := by
  unfold classifyCommand; split_ifs <;> simp

/-- The statuses of a data phase (40_command_dispatch.md R116). -/
theorem classifyData_cases (cfg : Cfg) (mask : Word) (hit : Bool) (sta : Word) :
    classifyData cfg mask hit sta ∈ [Status.success, .dataTimeout, .dataCrcFailure, .fifoUnderrun, .fifoOverrun,
      .dmaTransferError] := by
  unfold classifyData; split_ifs <;> simp

theorem commandPhase_status (cfg : Cfg) (d : CommandDescriptor) (s : State) :
    (commandPhase cfg d s).status = .success ∨ (commandPhase cfg d s).status = .commandTimeout ∨
      (commandPhase cfg d s).status = .crcFailure := classifyCommand_cases ..

theorem dataPhase_kept (cfg : Cfg) (d : CommandDescriptor) (s : State) : KeptMarker s (dataPhase cfg d s).state :=
  (kept_atRule 115 s).trans ((poll_kept ..).trans ((kept_atRule 116 _).trans (logData_kept ..)))

theorem dataPhase_ran {g : AccessGroup} (hg : Dispatches g) (cfg : Cfg) (d : CommandDescriptor) (s : State) :
    Ran g cfg.dataPollIters [] s (dataPhase cfg d s).state :=
  Ran.of_atRule (j := 115) (((poll_ran hg ..).to_atRule 116).trans (logData_ran hg ..))

theorem exitPath_kept (cfg : Cfg) (s : State) : KeptMarker s (exitPath cfg s) :=
  (kept_atRule 117 s).trans ((kept_regWrite ..).trans ((kept_afterRead ..).trans (kept_regWrite ..)))

theorem exitPath_ran {g : AccessGroup} (hg : Dispatches g) (cfg : Cfg) (s : State) :
    Ran g 0 [] s (exitPath cfg s) := by
  have hi : mayWrite g .icr = true := by rcases hg with rfl | rfl <;> rfl
  have hr : mayRead g .cmd = true := by rcases hg with rfl | rfl <;> rfl
  have hc : mayWrite g .cmd = true := by rcases hg with rfl | rfl <;> rfl
  exact Ran.of_atRule (j := 117) (((ran_regWrite _ _ hi (by decide)).trans (ran_afterRead _ hr)).trans
    (ran_regWrite _ _ hc (by decide)))

theorem quietExit_kept (cfg : Cfg) (s : State) : KeptMarker s (quietExit cfg s) :=
  (kept_atRule 114 s).trans (kept_regWrite ..)

theorem quietExit_ran {g : AccessGroup} (hg : Dispatches g) (cfg : Cfg) (s : State) :
    Ran g 0 [] s (quietExit cfg s) := by
  have hi : mayWrite g .icr = true := by rcases hg with rfl | rfl <;> rfl
  exact (ran_regWrite _ (s.atRule 114) hi (by decide)).before rfl rfl

theorem afterCommandPhase_kept (cfg : Cfg) (d : CommandDescriptor) (r : Result) :
    KeptMarker r.state (afterCommandPhase cfg d r).state := by
  unfold afterCommandPhase
  split
  · split
    · exact (dataPhase_kept ..).trans (exitPath_kept ..)
    · exact quietExit_kept ..
  · exact exitPath_kept ..

/-- The delays of a data phase, if there is one. -/
def dataDelays (cfg : Cfg) (trans : Bool) : Nat := if trans then cfg.dataPollIters else 0

theorem afterCommandPhase_ran {g : AccessGroup} (hg : Dispatches g) (cfg : Cfg) (d : CommandDescriptor) (r : Result) :
    Ran g (dataDelays cfg d.trans) [] r.state (afterCommandPhase cfg d r).state := by
  unfold afterCommandPhase
  split
  · split
    · rename_i ht
      simpa [dataDelays, ht] using (dataPhase_ran hg cfg d r.state).trans (exitPath_ran hg cfg _)
    · exact (quietExit_ran hg ..).mono (Nat.zero_le _)
  · exact (exitPath_ran hg ..).mono (Nat.zero_le _)

/-! ### DISPATCH -/

/-- The Command Descriptor a DISPATCH from `s` builds (40_command_dispatch.md R105). -/
abbrev descriptorAt (cfg : Cfg) (idx : Idx) (arg : Word) (s : State) : CommandDescriptor :=
  describe cfg idx arg s.nextIsAcmd

/-- The pair of words a DISPATCH from `s` writes to issue its command (40_command_dispatch.md R110). -/
abbrev commandAt (cfg : Cfg) (idx : Idx) (arg : Word) (s : State) : Word × Word :=
  (augment cfg idx arg,
    controlWord cfg idx (cfg.respKindOf idx) (descriptorAt cfg idx arg s).trans (idx == cfg.idxStop))

/-- The body of DISPATCH, with the descriptor read from the entry state. -/
theorem dispatchBody_eq (cfg : Cfg) (idx : Idx) (arg : Word) (s : State) :
    dispatchBody cfg idx arg s = afterCommandPhase cfg (descriptorAt cfg idx arg s)
      (commandPhase cfg (descriptorAt cfg idx arg s) (issueCommand cfg (descriptorAt cfg idx arg s)
        (updateMarker cfg idx (engineDisable cfg s)))) := by
  simp only [dispatchBody, descriptorAt, (engineDisable_kept cfg s).nextIsAcmd]

theorem dispatchBody_kept (cfg : Cfg) (idx : Idx) (arg : Word) (s : State) :
    Kept s (dispatchBody cfg idx arg s).state := by
  rw [dispatchBody_eq]
  exact (engineDisable_kept cfg s).toKept.trans (((kept_atRule 106 _).toKept.trans (kept_setMarker _ _)).trans
    ((issueCommand_kept ..).trans ((commandPhase_kept ..).trans (afterCommandPhase_kept ..))).toKept)

/-- Step 3: every DISPATCH leaves the marker as its own index says (40_command_dispatch.md R106). -/
theorem dispatchBody_marker (cfg : Cfg) (idx : Idx) (arg : Word) (s : State) :
    (dispatchBody cfg idx arg s).state.nextIsAcmd = (idx == cfg.idxAppCmd) := by
  rw [dispatchBody_eq]
  exact ((issueCommand_kept ..).trans ((commandPhase_kept ..).trans (afterCommandPhase_kept ..))).nextIsAcmd

theorem dispatchBody_ran {g : AccessGroup} (hg : Dispatches g) (cfg : Cfg) (idx : Idx) (arg : Word) (s : State) :
    Ran g (cfg.cmdPollIters + dataDelays cfg (descriptorAt cfg idx arg s).trans) [commandAt cfg idx arg s] s
      (dispatchBody cfg idx arg s).state := by
  rw [dispatchBody_eq]
  have h1 : Ran g 0 [] s (updateMarker cfg idx (engineDisable cfg s)) := (engineDisable_ran hg cfg s).after rfl rfl
  have h := (h1.trans (issueCommand_ran hg cfg (descriptorAt cfg idx arg s) _)).trans
    ((commandPhase_ran hg cfg _ _).trans (afterCommandPhase_ran hg cfg (descriptorAt cfg idx arg s) (commandPhase cfg
      (descriptorAt cfg idx arg s) (issueCommand cfg (descriptorAt cfg idx arg s)
        (updateMarker cfg idx (engineDisable cfg s))))))
  simpa [commandAt, descriptorAt, describe] using h

/-- A DISPATCH reports a status of the error taxonomy or Success (40_command_dispatch.md R112, R116). -/
theorem dispatchBody_status (cfg : Cfg) (idx : Idx) (arg : Word) (s : State) :
    (dispatchBody cfg idx arg s).status ≠ .usageFault ∧ (dispatchBody cfg idx arg s).status ≠ .invalidArgument := by
  rw [dispatchBody_eq]
  unfold afterCommandPhase
  split
  · split
    · have h := classifyData_cases cfg (dataMask cfg (descriptorAt cfg idx arg s).idx)
        (poll (dataMask cfg (descriptorAt cfg idx arg s).idx) cfg.dataPollIters
          ((commandPhase cfg (descriptorAt cfg idx arg s) (issueCommand cfg (descriptorAt cfg idx arg s)
            (updateMarker cfg idx (engineDisable cfg s)))).state.atRule 115)).hit
        (poll (dataMask cfg (descriptorAt cfg idx arg s).idx) cfg.dataPollIters
          ((commandPhase cfg (descriptorAt cfg idx arg s) (issueCommand cfg (descriptorAt cfg idx arg s)
            (updateMarker cfg idx (engineDisable cfg s)))).state.atRule 115)).sta
      simp only [dataPhase]
      simp only [List.mem_cons, List.not_mem_nil, or_false] at h
      rcases h with h | h | h | h | h | h <;> simp [h]
    · simp
  · rcases commandPhase_status cfg (descriptorAt cfg idx arg s) (issueCommand cfg (descriptorAt cfg idx arg s)
        (updateMarker cfg idx (engineDisable cfg s))) with h | h | h <;> simp [h]

/-- Without a data phase a DISPATCH reports Success, CommandTimeout or CrcFailure (40_command_dispatch.md R100). -/
theorem dispatchBody_status_of_no_data {cfg : Cfg} {idx : Idx} {arg : Word} {s : State}
    (ht : (descriptorAt cfg idx arg s).trans = false) :
    (dispatchBody cfg idx arg s).status = .success ∨ (dispatchBody cfg idx arg s).status = .commandTimeout ∨
      (dispatchBody cfg idx arg s).status = .crcFailure := by
  rw [dispatchBody_eq]
  unfold afterCommandPhase
  split
  · rw [if_neg (by simp [ht])]
    exact Or.inl rfl
  · exact commandPhase_status ..

/-- A command that is not data-bearing has no data phase. -/
theorem no_data_of_not_bearing {cfg : Cfg} {idx : Idx} {arg : Word} (h : dataBearing cfg idx arg = false) (s : State) :
    (descriptorAt cfg idx arg s).trans = false := by simp [descriptorAt, describe, h]

/-- The stop command of a cleanup, if step 13 finds the data path active (40_command_dispatch.md R118). -/
def stopsAfter (cfg : Cfg) (r : Result) : List (Word × Word) :=
  if r.status ≠ .success ∧ (r.state.answer .sta).getLsbD cfg.stDpsmact = true then
    [(augment cfg cfg.idxStop cfg.stopArg, controlWord cfg cfg.idxStop (cfg.respKindOf cfg.idxStop) false true)]
  else []

theorem cleanup_kept (cfg : Cfg) (r : Result) : Kept r.state (cleanup cfg r).state := by
  have h := ((kept_atRule 118 r.state).trans (kept_afterRead (r.state.atRule 118) .sta)).toKept
  unfold cleanup
  dsimp only
  split
  · exact h.trans (dispatchBody_kept ..)
  · exact h

theorem cleanup_ran {g : AccessGroup} (hg : Dispatches g) {cfg : Cfg}
    (hstop : dataBearing cfg cfg.idxStop cfg.stopArg = false) {r : Result} (hr : r.status ≠ .success) :
    Ran g cfg.cmdPollIters (stopsAfter cfg r) r.state (cleanup cfg r).state := by
  have hs : mayRead g .sta = true := by rcases hg with rfl | rfl <;> rfl
  have h : Ran g 0 [] r.state ((r.state.atRule 118).afterRead .sta) := (ran_afterRead (r.state.atRule 118) hs).before rfl rfl
  have ha : (r.state.atRule 118).answer .sta = r.state.answer .sta := rfl
  unfold cleanup stopsAfter
  dsimp only
  rw [ha]
  by_cases hb : (r.state.answer .sta).getLsbD cfg.stDpsmact = true
  · rw [if_pos hb, if_pos ⟨hr, hb⟩]
    have ht := no_data_of_not_bearing hstop ((r.state.atRule 118).afterRead .sta)
    have k := h.trans (dispatchBody_ran hg cfg cfg.idxStop cfg.stopArg ((r.state.atRule 118).afterRead .sta))
    simpa [commandAt, ht, dataDelays] using k
  · rw [if_neg hb, if_neg (by simp [hb])]
    exact h.mono (Nat.zero_le _)

/-- The status after a cleanup is the error that caused it or the error of the stop command: never Success
(40_command_dispatch.md R118). -/
theorem cleanup_status {cfg : Cfg} (hstop : dataBearing cfg cfg.idxStop cfg.stopArg = false) (r : Result) :
    (cleanup cfg r).status = r.status ∨ (cleanup cfg r).status = .commandTimeout ∨
      (cleanup cfg r).status = .crcFailure := by
  unfold cleanup
  dsimp only
  split
  · rcases dispatchBody_status_of_no_data (no_data_of_not_bearing hstop ((r.state.atRule 118).afterRead .sta)) with
      h | h | h <;> simp [h]
  · exact Or.inl rfl

/-- The marker after a cleanup: as it was, or 0 when the stop command was dispatched. -/
theorem cleanup_marker {cfg : Cfg} (hne : cfg.idxStop ≠ cfg.idxAppCmd) (r : Result) :
    (cleanup cfg r).state.nextIsAcmd =
      (r.state.nextIsAcmd && !(r.state.answer .sta).getLsbD cfg.stDpsmact) := by
  have ha : (r.state.atRule 118).answer .sta = r.state.answer .sta := rfl
  unfold cleanup
  dsimp only
  rw [ha]
  split
  · rename_i h
    rw [dispatchBody_marker, h]
    simp [hne]
  · rename_i h
    simp [h]

theorem dispatch_kept (cfg : Cfg) (idx : Idx) (arg : Word) (top : Bool) (s : State) :
    Kept s (dispatch cfg idx arg top s).state := by
  unfold dispatch
  dsimp only
  split
  · exact (dispatchBody_kept ..).trans (cleanup_kept ..)
  · exact dispatchBody_kept ..

theorem dispatch_ran {g : AccessGroup} (hg : Dispatches g) {cfg : Cfg}
    (hstop : dataBearing cfg cfg.idxStop cfg.stopArg = false) (idx : Idx) (arg : Word) (s : State) :
    Ran g (cfg.cmdPollIters + dataDelays cfg (descriptorAt cfg idx arg s).trans + cfg.cmdPollIters)
      (commandAt cfg idx arg s :: stopsAfter cfg (dispatchBody cfg idx arg s)) s (dispatch cfg idx arg true s).state := by
  unfold dispatch
  dsimp only
  split
  · rename_i h
    exact (dispatchBody_ran hg cfg idx arg s).trans (cleanup_ran hg hstop h.1)
  · rename_i h
    have he : stopsAfter cfg (dispatchBody cfg idx arg s) = [] := by
      simp only [stopsAfter]
      exact if_neg fun k => h ⟨k.1, rfl⟩
    rw [he]
    exact (dispatchBody_ran hg cfg idx arg s).mono (Nat.le_add_right _ _)

theorem dispatch_status {cfg : Cfg} (hstop : dataBearing cfg cfg.idxStop cfg.stopArg = false) (idx : Idx) (arg : Word)
    (s : State) : (dispatch cfg idx arg true s).status ≠ .usageFault ∧
      (dispatch cfg idx arg true s).status ≠ .invalidArgument := by
  unfold dispatch
  dsimp only
  split
  · rcases cleanup_status hstop (dispatchBody cfg idx arg s) with h | h | h
    · rw [h]; exact dispatchBody_status ..
    · simp [h]
    · simp [h]
  · exact dispatchBody_status ..

theorem dispatch_status_of_no_data {cfg : Cfg} (hstop : dataBearing cfg cfg.idxStop cfg.stopArg = false) {idx : Idx}
    {arg : Word} {s : State} (ht : (descriptorAt cfg idx arg s).trans = false) :
    (dispatch cfg idx arg true s).status = .success ∨ (dispatch cfg idx arg true s).status = .commandTimeout ∨
      (dispatch cfg idx arg true s).status = .crcFailure := by
  have hb := dispatchBody_status_of_no_data ht
  unfold dispatch
  dsimp only
  split
  · rcases cleanup_status hstop (dispatchBody cfg idx arg s) with h | h | h
    · rw [h]; exact hb
    · exact Or.inr (Or.inl h)
    · exact Or.inr (Or.inr h)
  · exact hb

/-- After a top-level DISPATCH of any index but the send-app-command the marker is 0. -/
theorem dispatch_marker_of_ne {cfg : Cfg} (hne : cfg.idxStop ≠ cfg.idxAppCmd) {idx : Idx} (hi : idx ≠ cfg.idxAppCmd)
    (arg : Word) (s : State) : (dispatch cfg idx arg true s).state.nextIsAcmd = false := by
  have hm := dispatchBody_marker cfg idx arg s
  unfold dispatch
  dsimp only
  split
  · rw [cleanup_marker hne, hm]; simp [hi]
  · rw [hm]; simp [hi]

/-! ### CONFIGURE -/

theorem setBlockLength_kept (cfg : Cfg) (n : Word) (s : State) : Kept s (setBlockLength cfg n s) := by
  unfold setBlockLength
  dsimp only
  split
  · exact (dispatch_kept ..).trans ((kept_atRule 154 _).trans (kept_emit ..)).toKept
  · exact dispatch_kept ..

theorem setBlockLength_ran {cfg : Cfg} (hstop : dataBearing cfg cfg.idxStop cfg.stopArg = false) {n : Word}
    (hsb : dataBearing cfg cfg.idxSetBlocklen n = false) (s : State) :
    Ran .block (cfg.cmdPollIters + cfg.cmdPollIters)
      (commandAt cfg cfg.idxSetBlocklen n s :: stopsAfter cfg (dispatchBody cfg cfg.idxSetBlocklen n s)) s
      (setBlockLength cfg n s) := by
  have h := dispatch_ran (g := .block) (Or.inr rfl) hstop cfg.idxSetBlocklen n s
  rw [no_data_of_not_bearing hsb] at h
  unfold setBlockLength
  dsimp only
  split
  · have k := (h.after (u := (dispatch cfg cfg.idxSetBlocklen n true s).state.atRule 154) rfl rfl).trans
      (ran_emit _ (e := .log (.setBlockLenFailed (dispatch cfg cfg.idxSetBlocklen n true s).status)) rfl (by simp) (by simp))
    simpa [dataDelays, State.log] using k
  · simpa [dataDelays] using h

/-- CONFIGURE logs a failed set-block-length once, with its status, and nothing when it succeeded
(41_data_path.md R154). -/
theorem setBlockLength_failed {cfg : Cfg} (hstop : dataBearing cfg cfg.idxStop cfg.stopArg = false) (n : Word) (s : State) :
    Failed (if (dispatch cfg cfg.idxSetBlocklen n true s).status = .success then []
      else [(dispatch cfg cfg.idxSetBlocklen n true s).status]) s (setBlockLength cfg n s) := by
  have h := (dispatch_ran (g := .command) (Or.inl rfl) hstop cfg.idxSetBlocklen n s).failed
  unfold setBlockLength
  by_cases hs : (dispatch cfg cfg.idxSetBlocklen n true s).status = .success
  · simpa only [hs, ne_eq, not_true_eq_false, if_true, if_false] using h
  · simp only [ne_eq, hs, not_false_eq_true, if_true, if_false]
    exact (h.after (u := (dispatch cfg cfg.idxSetBlocklen n true s).state.atRule 154) rfl).trans (failed_log _ _)

theorem setBlockLength_marker {cfg : Cfg} (hne : cfg.idxStop ≠ cfg.idxAppCmd) (hi : cfg.idxSetBlocklen ≠ cfg.idxAppCmd)
    (n : Word) (s : State) : (setBlockLength cfg n s).nextIsAcmd = false := by
  have h := dispatch_marker_of_ne hne hi n s
  unfold setBlockLength
  dsimp only
  split <;> simpa using h

theorem programTransfer_kept (cfg : Cfg) (t : TransferDescriptor) (s : State) :
    KeptMarker s (programTransfer cfg t s) :=
  (kept_atRule 155 s).trans ((kept_regWrite ..).trans ((kept_regWrite ..).trans ((kept_regWrite ..).trans
    ((kept_afterRead ..).trans ((kept_regWrite ..).trans (kept_regWrite ..))))))

theorem programTransfer_ran (cfg : Cfg) (t : TransferDescriptor) (s : State) :
    Ran .block 0 [] s (programTransfer cfg t s) :=
  Ran.of_atRule (j := 155) ((((((ran_regWrite (r := .dtimer) _ _ rfl (by decide)).trans
    (ran_regWrite (r := .dlen) _ _ rfl (by decide))).trans (ran_regWrite (r := .idmabase) _ _ rfl (by decide))).trans
    (ran_afterRead (r := .dctrl) _ rfl)).trans (ran_regWrite (r := .dctrl) _ _ rfl (by decide))).trans
    (ran_regWrite (r := .idmactrl) _ _ rfl (by decide)))

theorem programTransfer_failed (cfg : Cfg) (t : TransferDescriptor) (s : State) :
    Failed [] s (programTransfer cfg t s) := by
  refine ⟨[.wr .dtimer cfg.dtimerMax, .wr .dlen t.n, .wr .idmabase t.buf, .rd .dctrl (((((s.atRule 155).regWrite .dtimer
    cfg.dtimerMax).regWrite .dlen t.n).regWrite .idmabase t.buf).answer .dctrl), .wr .dctrl (dctrlWord cfg (((((s.atRule
    155).regWrite .dtimer cfg.dtimerMax).regWrite .dlen t.n).regWrite .idmabase t.buf).answer .dctrl) t.e),
    .wr .idmactrl (bit cfg.idmaEn)], ?_, rfl⟩
  simp [programTransfer]

/-- The words the data registers hold after CONFIGURE (41_data_path.md R155, R157). -/
theorem programTransfer_ctrl (cfg : Cfg) (t : TransferDescriptor) (s : State) :
    (programTransfer cfg t s).ctrl.dtimer = cfg.dtimerMax ∧ (programTransfer cfg t s).ctrl.dlen = t.n ∧
      (programTransfer cfg t s).ctrl.idmabase = t.buf ∧ (programTransfer cfg t s).ctrl.idmactrl = bit cfg.idmaEn := by
  simp [programTransfer, CtrlRegs.set]

theorem configure_kept (cfg : Cfg) (t : TransferDescriptor) (s : State) : Kept s (configure cfg t s) :=
  ((kept_atRule 153 s).trans (kept_emit ..)).toKept.trans ((setBlockLength_kept ..).trans (programTransfer_kept ..).toKept)

theorem configure_marker {cfg : Cfg} (hne : cfg.idxStop ≠ cfg.idxAppCmd) (hi : cfg.idxSetBlocklen ≠ cfg.idxAppCmd)
    (t : TransferDescriptor) (s : State) : (configure cfg t s).nextIsAcmd = false :=
  (programTransfer_kept ..).nextIsAcmd.trans (setBlockLength_marker hne hi _ _)

end Sys2Proof.Machine
end

