-- ==== Sys2Proof/Laws/Exec.lean ====
section
/-! SUPPORT. What each operation can do: the settings by value, exec over the four families, SEND_COMMAND, the
response reader, READ_BLOCK and SET_BUS_PARAMETERS, each inverted once. -/

namespace Sys2Proof.Machine

/-! ### The settings by value -/

theorem settings_stop_ne_appCmd : settings.idxStop ≠ settings.idxAppCmd := by decide

theorem settings_blocklen_ne_appCmd : settings.idxSetBlocklen ≠ settings.idxAppCmd := by decide

/-- Of the command indices only 6, 17, 18 and 51 can be data-bearing (30_encoding.md R70). -/
theorem dataBearing_settings (idx : Idx) (arg : Word) :
    dataBearing settings idx arg = ((idx == 6 && !Config.isInquiryArg arg) || idx == 51 || idx == 17 || idx == 18) := rfl

theorem settings_stop_not_bearing : dataBearing settings settings.idxStop settings.stopArg = false := rfl

theorem settings_blocklen_not_bearing (n : Word) : dataBearing settings settings.idxSetBlocklen n = false := rfl

/-! ### The families of Instr -/

/-- A command request runs SEND_COMMAND of its index. -/
theorem exec_sendcmd (idx : Idx) (arg : Word) (s : State) :
    exec (Instr.sendcmd idx arg) s = .next (sendCommand settings idx arg s) := by
  obtain ⟨⟨n, hn⟩⟩ := idx
  change n < 64 at hn
  interval_cases n <;> rfl

/-- A command request makes the accesses of SEND_COMMAND. -/
theorem accessGroup_sendcmd (idx : Idx) (arg : Word) : accessGroup (Instr.sendcmd idx arg) = .command := by
  obtain ⟨⟨n, hn⟩⟩ := idx
  change n < 64 at hn
  interval_cases n <;> rfl

/-- Every request is one of the nine operations of 30_encoding.md R62. -/
theorem instr_cases (i : Instr) :
    (∃ idx arg, i = Instr.sendcmd idx arg) ∨ i = .cardp ∨ i = .rdonly ∨ i = .devpath ∨ (∃ w, i = .notify w) ∨
      (∃ a b c, i = .setbus a b c) ∨ (∃ k o, i = .recvrsp k o) ∨ (∃ a b c, i = .rdblk a b c) ∨
      (∃ a b c, i = .wrblk a b c) := by
  cases i
  case cardp => simp
  case rdonly => simp
  case devpath => simp
  case notify w => simp
  case setbus a b c => simp
  case recvrsp k o => simp
  case rdblk a b c => simp
  case wrblk a b c => simp
  case sendcmd0 arg => exact Or.inl ⟨0, arg, rfl⟩
  case sendcmd1 arg => exact Or.inl ⟨1, arg, rfl⟩
  case sendcmd2 arg => exact Or.inl ⟨2, arg, rfl⟩
  case sendcmd3 arg => exact Or.inl ⟨3, arg, rfl⟩
  case sendcmd4 arg => exact Or.inl ⟨4, arg, rfl⟩
  case sendcmd5 arg => exact Or.inl ⟨5, arg, rfl⟩
  case sendcmd6 arg => exact Or.inl ⟨6, arg, rfl⟩
  case sendcmd7 arg => exact Or.inl ⟨7, arg, rfl⟩
  case sendcmd8 arg => exact Or.inl ⟨8, arg, rfl⟩
  case sendcmd9 arg => exact Or.inl ⟨9, arg, rfl⟩
  case sendcmd10 arg => exact Or.inl ⟨10, arg, rfl⟩
  case sendcmd11 arg => exact Or.inl ⟨11, arg, rfl⟩
  case sendcmd12 arg => exact Or.inl ⟨12, arg, rfl⟩
  case sendcmd13 arg => exact Or.inl ⟨13, arg, rfl⟩
  case sendcmd14 arg => exact Or.inl ⟨14, arg, rfl⟩
  case sendcmd15 arg => exact Or.inl ⟨15, arg, rfl⟩
  case sendcmd16 arg => exact Or.inl ⟨16, arg, rfl⟩
  case sendcmd17 arg => exact Or.inl ⟨17, arg, rfl⟩
  case sendcmd18 arg => exact Or.inl ⟨18, arg, rfl⟩
  case sendcmd19 arg => exact Or.inl ⟨19, arg, rfl⟩
  case sendcmd20 arg => exact Or.inl ⟨20, arg, rfl⟩
  case sendcmd21 arg => exact Or.inl ⟨21, arg, rfl⟩
  case sendcmd22 arg => exact Or.inl ⟨22, arg, rfl⟩
  case sendcmd23 arg => exact Or.inl ⟨23, arg, rfl⟩
  case sendcmd24 arg => exact Or.inl ⟨24, arg, rfl⟩
  case sendcmd25 arg => exact Or.inl ⟨25, arg, rfl⟩
  case sendcmd26 arg => exact Or.inl ⟨26, arg, rfl⟩
  case sendcmd27 arg => exact Or.inl ⟨27, arg, rfl⟩
  case sendcmd28 arg => exact Or.inl ⟨28, arg, rfl⟩
  case sendcmd29 arg => exact Or.inl ⟨29, arg, rfl⟩
  case sendcmd30 arg => exact Or.inl ⟨30, arg, rfl⟩
  case sendcmd31 arg => exact Or.inl ⟨31, arg, rfl⟩
  case sendcmd32 arg => exact Or.inl ⟨32, arg, rfl⟩
  case sendcmd33 arg => exact Or.inl ⟨33, arg, rfl⟩
  case sendcmd34 arg => exact Or.inl ⟨34, arg, rfl⟩
  case sendcmd35 arg => exact Or.inl ⟨35, arg, rfl⟩
  case sendcmd36 arg => exact Or.inl ⟨36, arg, rfl⟩
  case sendcmd37 arg => exact Or.inl ⟨37, arg, rfl⟩
  case sendcmd38 arg => exact Or.inl ⟨38, arg, rfl⟩
  case sendcmd39 arg => exact Or.inl ⟨39, arg, rfl⟩
  case sendcmd40 arg => exact Or.inl ⟨40, arg, rfl⟩
  case sendcmd41 arg => exact Or.inl ⟨41, arg, rfl⟩
  case sendcmd42 arg => exact Or.inl ⟨42, arg, rfl⟩
  case sendcmd43 arg => exact Or.inl ⟨43, arg, rfl⟩
  case sendcmd44 arg => exact Or.inl ⟨44, arg, rfl⟩
  case sendcmd45 arg => exact Or.inl ⟨45, arg, rfl⟩
  case sendcmd46 arg => exact Or.inl ⟨46, arg, rfl⟩
  case sendcmd47 arg => exact Or.inl ⟨47, arg, rfl⟩
  case sendcmd48 arg => exact Or.inl ⟨48, arg, rfl⟩
  case sendcmd49 arg => exact Or.inl ⟨49, arg, rfl⟩
  case sendcmd50 arg => exact Or.inl ⟨50, arg, rfl⟩
  case sendcmd51 arg => exact Or.inl ⟨51, arg, rfl⟩
  case sendcmd52 arg => exact Or.inl ⟨52, arg, rfl⟩
  case sendcmd53 arg => exact Or.inl ⟨53, arg, rfl⟩
  case sendcmd54 arg => exact Or.inl ⟨54, arg, rfl⟩
  case sendcmd55 arg => exact Or.inl ⟨55, arg, rfl⟩
  case sendcmd56 arg => exact Or.inl ⟨56, arg, rfl⟩
  case sendcmd57 arg => exact Or.inl ⟨57, arg, rfl⟩
  case sendcmd58 arg => exact Or.inl ⟨58, arg, rfl⟩
  case sendcmd59 arg => exact Or.inl ⟨59, arg, rfl⟩
  case sendcmd60 arg => exact Or.inl ⟨60, arg, rfl⟩
  case sendcmd61 arg => exact Or.inl ⟨61, arg, rfl⟩
  case sendcmd62 arg => exact Or.inl ⟨62, arg, rfl⟩
  case sendcmd63 arg => exact Or.inl ⟨63, arg, rfl⟩

/-! ### SEND_COMMAND -/

/-- What SEND_COMMAND can do: refuse a second latch, defer, or dispatch (40_command_dispatch.md R100). -/
theorem sendCommand_cases (cfg : Cfg) (idx : Idx) (arg : Word) (s : State) :
    (dataBearing cfg idx arg = true ∧ s.pending = true ∧ sendCommand cfg idx arg s = usageFault .doubleLatch s) ∨
    (dataBearing cfg idx arg = true ∧ s.pending = false ∧
      sendCommand cfg idx arg s = (s.latch idx arg).deliver (Completion.of .success 0)) ∨
    (dataBearing cfg idx arg = false ∧ sendCommand cfg idx arg s =
      finish (dispatch cfg idx arg true s).status (dispatch cfg idx arg true s).state) := by
  unfold sendCommand
  by_cases hb : dataBearing cfg idx arg = true
  · by_cases hp : s.pending = true
    · exact Or.inl ⟨hb, hp, by rw [if_pos hb, if_pos hp]⟩
    · exact Or.inr (Or.inl ⟨hb, by simpa using hp, by rw [if_pos hb, if_neg hp]⟩)
  · exact Or.inr (Or.inr ⟨by simpa using hb, by rw [if_neg hb]⟩)

/-- The events of a dispatched command. -/
theorem sendCommand_ran {idx : Idx} {arg : Word} (h : dataBearing settings idx arg = false) (s : State) :
    Ran .command 20 (commandAt settings idx arg s :: stopsAfter settings (dispatchBody settings idx arg s)) s
      (finish (dispatch settings idx arg true s).status (dispatch settings idx arg true s).state) := by
  have k := dispatch_ran (g := .command) (Or.inl rfl) settings_stop_not_bearing idx arg s
  rw [no_data_of_not_bearing h] at k
  exact (k.mono (m := 20) (by decide)).after rfl rfl

/-! ### RECEIVE_RESPONSE -/

/-- The events of copying registers to the buffer, and what is left alone. -/
theorem copyResponse_spec (out : Word) (regs : List Reg) (j : Nat) (s : State)
    (hr : ∀ r ∈ regs, mayRead .response r = true) :
    (∃ evs, (copyResponse settings out regs j s).trace = s.trace ++ evs ∧ (∀ e ∈ evs, mayPerform .response e = true) ∧
      delays evs = 0) ∧
    (copyResponse settings out regs j s).ctrl = s.ctrl ∧
    (copyResponse settings out regs j s).latchOpcode = s.latchOpcode ∧
    (copyResponse settings out regs j s).latchArg = s.latchArg ∧
    (copyResponse settings out regs j s).pending = s.pending ∧
    (copyResponse settings out regs j s).nextIsAcmd = s.nextIsAcmd ∧
    (copyResponse settings out regs j s).phase = s.phase ∧
    (copyResponse settings out regs j s).hostRequests = s.hostRequests ∧
    (Memory.wf s.mem → Memory.wf (copyResponse settings out regs j s).mem) ∧
    (∀ y, (∀ i < regs.length, ∀ k < 4, y ≠ byteAddress settings (wordAddress settings out (j + i)) k) →
      Memory.read (copyResponse settings out regs j s).mem y = Memory.read s.mem y) := by
  induction regs generalizing j s with
  | nil => exact ⟨⟨[], by simp [copyResponse], by simp, rfl⟩, rfl, rfl, rfl, rfl, rfl, rfl, rfl, id, fun _ _ => rfl⟩
  | cons r rest ih =>
    have hr1 := hr r (List.mem_cons_self ..)
    obtain ⟨⟨evs, ht, hp, hd⟩, h1, h2, h3, h4, h5, h6, h7, h8, h9⟩ :=
      ih (j + 1) ((s.afterRead r).memWrite settings (wordAddress settings out j) (s.answer r))
        fun q hq => hr q (List.mem_cons_of_mem _ hq)
    simp only [State.memWrite_trace, State.memWrite_ctrl, State.memWrite_latchOpcode, State.memWrite_latchArg,
      State.memWrite_pending, State.memWrite_nextIsAcmd, State.memWrite_phase, State.memWrite_hostRequests,
      State.memWrite_mem, State.afterRead_trace, State.afterRead_ctrl, State.afterRead_latchOpcode,
      State.afterRead_latchArg, State.afterRead_pending, State.afterRead_nextIsAcmd, State.afterRead_phase,
      State.afterRead_hostRequests, State.afterRead_mem] at ht h1 h2 h3 h4 h5 h6 h7 h8 h9
    refine ⟨⟨[.rd r (s.answer r), .memWr (wordAddress settings out j) (s.answer r)] ++ evs, ?_, fun e he => ?_, ?_⟩,
      h1, h2, h3,
      h4, h5, h6, h7, fun hw => h8 (Memory.writeWord_wf _ _ hw), fun y hy => ?_⟩
    · rw [copyResponse, ht]; simp
    · rcases List.mem_append.1 he with he | he
      · rcases List.mem_cons.1 he with rfl | he
        · exact hr1
        · rw [List.mem_singleton.1 he]; rfl
      · exact hp e he
    · rw [delays_append, hd]; rfl
    · rw [copyResponse, h9 y fun i hi k hk => ?_]
      · exact Memory.read_writeWord_of_ne fun k hk => by simpa using hy 0 (by simp) k hk
      · have := hy (i + 1) (by simpa using hi) k hk
        rwa [show j + 1 + i = j + (i + 1) by omega]

/-- In the machine's configuration word `j` of the buffer is at `out + 4*j` in 32-bit arithmetic (20_memory.md R42). -/
theorem wordAddress_settings (out : Word) (j : Nat) : wordAddress settings out j = out + BitVec.ofNat 32 (4 * j) := by
  rw [wordAddress, byteAddress_settings, BitVec.ofNat_toNat, BitVec.setWidth_eq]

/-- The response reader reads response registers only. -/
theorem responseOrder_reads (kind : ReadKind) : ∀ r ∈ responseOrder kind, mayRead .response r = true := by
  cases kind <;> decide

@[simp] theorem responseOrder_length (kind : ReadKind) : (responseOrder kind).length = 4 := by cases kind <;> rfl

/-- What RECEIVE_RESPONSE can do (42_response_reader.md R180): refuse a reserved kind, refuse the null buffer, or
copy the four registers. -/
theorem receiveResponse_cases (code : BitVec 3) (out : Word) (s : State) :
    (readKind? code = none ∧ receiveResponse settings code out s = usageFault .reservedEncoding s) ∨
    (readKind? code ≠ none ∧ out = 0 ∧
      receiveResponse settings code out s = s.deliver (Completion.of .invalidArgument 0)) ∨
    (∃ kind, readKind? code = some kind ∧ out ≠ 0 ∧
      receiveResponse settings code out s =
        finish .success (copyResponse settings out (responseOrder kind) 0 (s.atRule 180))) := by
  unfold receiveResponse
  cases h : readKind? code with
  | none => exact Or.inl ⟨rfl, rfl⟩
  | some kind =>
    by_cases ho : out = 0
    · exact Or.inr (Or.inl ⟨by simp, ho, by simp [ho]⟩)
    · exact Or.inr (Or.inr ⟨kind, rfl, ho, if_neg ho⟩)

/-! ### SET_BUS_PARAMETERS -/

/-- What SET_BUS_PARAMETERS can do (43_host_surface.md R195, R196). -/
theorem setBus_cases (cfg : Cfg) (width : Word) (s : State) :
    (∃ wbits, widthBits? cfg width = some wbits ∧ setBus cfg width s =
      finish .success (((s.atRule 195).afterRead .clkcr).regWrite .clkcr (clkcrWord cfg (s.answer .clkcr) wbits))) ∨
    (widthBits? cfg width = none ∧ setBus cfg width s =
      finish (badWidthStatus s.draws) (((s.atRule 196).addDraws 1).log (.badBusWidth width))) := by
  unfold setBus
  cases h : widthBits? cfg width with
  | none => exact Or.inr ⟨rfl, rfl⟩
  | some wbits => exact Or.inl ⟨wbits, rfl, rfl⟩

/-! ### READ_BLOCK -/

/-- The state a replay starts from, after CONFIGURE (41_data_path.md R160). -/
abbrev replayEntry (cfg : Cfg) (t : TransferDescriptor) (s : State) : State :=
  (((configure cfg t s).atRule 160).setPhase .armed).setPhase .executing

/-- The DISPATCH of the latched command. -/
abbrev replayed (cfg : Cfg) (t : TransferDescriptor) (s : State) : Result :=
  dispatch cfg s.latchOpcode s.latchArg true (replayEntry cfg t s)

/-- READ_BLOCK past its checks, over the DISPATCH of the latched command. -/
theorem transferBlock_eq (cfg : Cfg) (t : TransferDescriptor) (s : State) :
    transferBlock cfg t s = finish (replayed cfg t s).status (afterReplay cfg t ((replayed cfg t s).state.setPhase
      (if (replayed cfg t s).status = .success then .completed else .failed))) := by
  have h := configure_kept cfg t s
  simp only [transferBlock, replay, replayed, State.setPhase_latchOpcode, State.setPhase_latchArg,
    State.atRule_latchOpcode, State.atRule_latchArg, h.latchOpcode, h.latchArg]

theorem replayed_kept (cfg : Cfg) (t : TransferDescriptor) (s : State) :
    (replayed cfg t s).state.mem = s.mem ∧ (replayed cfg t s).state.hostRequests = s.hostRequests := by
  have h := dispatch_kept cfg s.latchOpcode s.latchArg true (replayEntry cfg t s)
  have k := configure_kept cfg t s
  refine ⟨h.mem.trans ?_, h.hostRequests.trans ?_⟩
  · rw [State.setPhase_mem, State.setPhase_mem, State.atRule_mem, k.mem]
  · rw [State.setPhase_hostRequests, State.setPhase_hostRequests, State.atRule_hostRequests, k.hostRequests]

/-- What READ_BLOCK leaves in the latch, the phase, SEQ, memory and the completion port once it has replayed
(41_data_path.md R162, 20_memory.md R52). -/
theorem transferBlock_spec (cfg : Cfg) (t : TransferDescriptor) (s : State) :
    (transferBlock cfg t s).pending = false ∧ (transferBlock cfg t s).latchOpcode = 0 ∧
    (transferBlock cfg t s).latchArg = 0 ∧ (transferBlock cfg t s).phase = .idle ∧
    (transferBlock cfg t s).seqStep = .none ∧ (transferBlock cfg t s).seqIter = 0 ∧
    (transferBlock cfg t s).hostRequests = s.hostRequests ∧
    (transferBlock cfg t s).mem = Memory.fillFree cfg s.mem t.buf (replayed cfg t s).state.draws t.n.toNat ∧
    (transferBlock cfg t s).completion = some (Completion.of (replayed cfg t s).status 0) ∧
    (transferBlock cfg t s).nextIsAcmd = (replayed cfg t s).state.nextIsAcmd ∧
    (transferBlock cfg t s).ctrl = (replayed cfg t s).state.ctrl ∧
    (transferBlock cfg t s).trace = (replayed cfg t s).state.trace ++ [.cache t.buf t.n] := by
  rw [transferBlock_eq]
  obtain ⟨h1, h2⟩ := replayed_kept cfg t s
  generalize replayed cfg t s = r at h1 h2 ⊢
  refine ⟨rfl, rfl, rfl, rfl, rfl, rfl, h2, ?_, rfl, rfl, rfl, rfl⟩
  rw [← h1]
  rfl

/-- What READ_BLOCK can do (41_data_path.md R160). -/
theorem readBlock_cases (cfg : Cfg) (len buf : Word) (s : State) :
    (s.pending = false ∧ readBlock cfg len buf s = usageFault .noLatchedCommand s) ∨
    (s.pending = true ∧ validLength (clampLength cfg len) = false ∧ readBlock cfg len buf s = usageFault .badLength s) ∨
    (s.pending = true ∧ validLength (clampLength cfg len) = true ∧
      readBlock cfg len buf s = transferBlock cfg (transferOf cfg buf len) s) := by
  unfold readBlock
  by_cases hp : s.pending = true
  · by_cases hv : validLength (clampLength cfg len) = true
    · exact Or.inr (Or.inr ⟨hp, hv, by simp [hp, hv]⟩)
    · exact Or.inr (Or.inl ⟨hp, by simpa using hv, by simp [hp, hv]⟩)
  · exact Or.inl ⟨by simpa using hp, by simp [hp]⟩

/-- The marker is 0 when the replay starts (41_data_path.md R160). -/
theorem replayEntry_marker (t : TransferDescriptor) (s : State) : (replayEntry settings t s).nextIsAcmd = false := by
  rw [State.setPhase_nextIsAcmd, State.setPhase_nextIsAcmd, State.atRule_nextIsAcmd]
  exact configure_marker settings_stop_ne_appCmd settings_blocklen_ne_appCmd t s

/-- At replay the transfer bit is never suppressed: the marker is 0 (41_data_path.md R160). -/
theorem replay_trans (t : TransferDescriptor) (s : State) (idx : Idx) (arg : Word) :
    (descriptorAt settings idx arg (replayEntry settings t s)).trans = dataBearing settings idx arg := by
  simp only [descriptorAt, describe, replayEntry_marker]
  simp

/-- The commands and delays of a whole READ_BLOCK, between its two cache requests (41_data_path.md R160). -/
theorem transferBlock_ran (t : TransferDescriptor) (s : State) :
    Ran .block 2040
      ((commandAt settings settings.idxSetBlocklen t.n ((s.atRule 153).cacheWbInv t.buf t.n) ::
        stopsAfter settings (dispatchBody settings settings.idxSetBlocklen t.n ((s.atRule 153).cacheWbInv t.buf t.n))) ++
       (commandAt settings s.latchOpcode s.latchArg (replayEntry settings t s) ::
        stopsAfter settings (dispatchBody settings s.latchOpcode s.latchArg (replayEntry settings t s))))
      ((s.atRule 153).cacheWbInv t.buf t.n) (replayed settings t s).state := by
  have h1 := (setBlockLength_ran settings_stop_not_bearing (settings_blocklen_not_bearing t.n)
    ((s.atRule 153).cacheWbInv t.buf t.n)).trans (programTransfer_ran settings t _)
  have h2 := h1.after (u := replayEntry settings t s) rfl rfl
  have h3 := h2.trans (dispatch_ran (g := .block) (Or.inr rfl) settings_stop_not_bearing s.latchOpcode s.latchArg
    (replayEntry settings t s))
  have h4 : dataDelays settings (descriptorAt settings s.latchOpcode s.latchArg (replayEntry settings t s)).trans ≤ 2000 := by
    unfold dataDelays
    split
    · exact le_rfl
    · exact Nat.zero_le _
  simp only [List.append_nil] at h3
  refine h3.mono ?_
  have h5 : settings.cmdPollIters = 10 := rfl
  omega

/-- Between its two cache requests a READ_BLOCK logs the failure of its set-block-length, if it failed, and no other
(41_data_path.md R154, 60_exceptions.md R213). -/
theorem transferBlock_failed (t : TransferDescriptor) (s : State) :
    Failed (if (dispatch settings settings.idxSetBlocklen t.n true ((s.atRule 153).cacheWbInv t.buf t.n)).status = .success
      then [] else [(dispatch settings settings.idxSetBlocklen t.n true ((s.atRule 153).cacheWbInv t.buf t.n)).status])
      ((s.atRule 153).cacheWbInv t.buf t.n) (replayed settings t s).state := by
  have h1 := (setBlockLength_failed settings_stop_not_bearing t.n ((s.atRule 153).cacheWbInv t.buf t.n)).trans
    (programTransfer_failed settings t _)
  have h2 := (h1.after (u := replayEntry settings t s) rfl).trans (dispatch_ran (g := .command) (Or.inl rfl)
    settings_stop_not_bearing s.latchOpcode s.latchArg (replayEntry settings t s)).failed
  simpa only [List.append_nil] using h2

end Sys2Proof.Machine
end

