-- ==== Sys2Proof/Laws/Answers.lean ====
section
/-! SUPPORT. What a read, a poll and the engine disable do when CTRL's next answers are given, and the bits of the
awaited command mask. -/

namespace Sys2Proof.Machine

theorem answer_of_cons {s : State} {v : Word} {rest : List Word} (h : s.ctrlAnswers = v :: rest) (r : Reg) :
    s.answer r = v := by simp [State.answer, h]

theorem afterRead_of_cons {s : State} {v : Word} {rest : List Word} (h : s.ctrlAnswers = v :: rest) (r : Reg) :
    s.afterRead r = { s with ctrlAnswers := rest, trace := s.trace ++ [.rd r v] } := by
  unfold State.afterRead
  rw [h]
  rfl

/-- A poll whose first snapshot meets the mask ends there. -/
theorem poll_of_first_hit {mask : Word} {s : State} {v : Word} {rest : List Word} (n : Nat)
    (h : s.ctrlAnswers = v :: rest) (hv : v &&& mask ≠ 0) :
    poll mask (n + 1) s =
      ⟨true, v, { s with seqIter := 0, ctrlAnswers := rest, trace := s.trace ++ [.rd .sta v] }⟩ := by
  have h' : (s.setIter 0).ctrlAnswers = v :: rest := h
  unfold poll pollLoop
  simp only [answer_of_cons h', if_pos hv]
  rw [afterRead_of_cons h']
  rfl

/-- A poll whose snapshots all miss the mask uses its whole budget. -/
theorem pollLoop_of_misses {mask : Word} {polls rest : List Word} (last : Word) {s : State}
    (h : s.ctrlAnswers = polls ++ rest) (hv : ∀ v ∈ polls, v &&& mask = 0) :
    pollLoop mask polls.length last s = ⟨false, (last :: polls).getLast (by simp), { s with
      seqIter := s.seqIter + polls.length
      ctrlAnswers := rest
      trace := s.trace ++ polls.flatMap fun v => [.rd .sta v, .dly] }⟩ := by
  induction polls generalizing last s with
  | nil =>
    rw [List.nil_append] at h
    subst h
    simp [pollLoop]
  | cons v vs ih =>
    have h' : s.ctrlAnswers = v :: (vs ++ rest) := h
    rw [List.length_cons, pollLoop]
    simp only [answer_of_cons h', afterRead_of_cons h']
    rw [if_neg (by simpa using hv v (by simp)), ih _ (by rfl) fun w hw => hv w (by simp [hw])]
    simp [State.delay, State.emit, State.setIter]
    omega

/-- A poll whose snapshots miss the mask until one within the budget meets it ends there. -/
theorem pollLoop_of_hit {mask : Word} {misses rest : List Word} {v : Word} (k : Nat) (last : Word) {s : State}
    (h : s.ctrlAnswers = misses ++ v :: rest) (hm : ∀ w ∈ misses, w &&& mask = 0) (hv : v &&& mask ≠ 0) :
    pollLoop mask (misses.length + (k + 1)) last s = ⟨true, v, { s with
      seqIter := s.seqIter + misses.length
      ctrlAnswers := rest
      trace := s.trace ++ (misses.flatMap fun w => [Event.rd .sta w, .dly]) ++ [Event.rd .sta v] }⟩ := by
  induction misses generalizing last s with
  | nil =>
    rw [List.length_nil, Nat.zero_add, pollLoop]
    simp only [answer_of_cons h, afterRead_of_cons h, if_pos hv]
    simp
  | cons w ws ih =>
    have h' : s.ctrlAnswers = w :: (ws ++ v :: rest) := h
    rw [List.length_cons, Nat.add_right_comm, pollLoop]
    simp only [answer_of_cons h', afterRead_of_cons h']
    rw [if_neg (by simpa using hm w (by simp)), ih _ (by rfl) fun u hu => hm u (by simp [hu])]
    simp [State.delay, State.emit, State.setIter]
    omega

/-- The whole result of a poll that hits within its budget (40_command_dispatch.md R121). -/
theorem poll_of_hit {mask : Word} {misses rest : List Word} {v : Word} {n : Nat} {s : State}
    (h : s.ctrlAnswers = misses ++ v :: rest) (hn : misses.length < n) (hm : ∀ w ∈ misses, w &&& mask = 0)
    (hv : v &&& mask ≠ 0) : poll mask n s = ⟨true, v, { s with
      seqIter := misses.length
      ctrlAnswers := rest
      trace := s.trace ++ (misses.flatMap fun w => [Event.rd .sta w, .dly]) ++ [Event.rd .sta v] }⟩ := by
  obtain ⟨k, rfl⟩ := Nat.exists_eq_add_of_lt hn
  rw [poll, Nat.add_assoc, pollLoop_of_hit (s := s.setIter 0) k 0 h hm hv]
  simp [State.setIter]

/-- The whole result of a poll that misses in its whole budget (40_command_dispatch.md R121). -/
theorem poll_of_misses {mask : Word} {polls rest : List Word} {s : State} (h : s.ctrlAnswers = polls ++ rest)
    (hv : ∀ v ∈ polls, v &&& mask = 0) : poll mask polls.length s = ⟨false, (0 :: polls).getLast (by simp), { s with
      seqIter := polls.length
      ctrlAnswers := rest
      trace := s.trace ++ polls.flatMap fun v => [Event.rd .sta v, .dly] }⟩ := by
  rw [poll, pollLoop_of_misses (s := s.setIter 0) 0 h hv]
  simp [State.setIter]

/-- The whole state after step 1 (40_command_dispatch.md R104). -/
theorem engineDisable_of_cons {s : State} {c : Word} {rest : List Word} (h : s.ctrlAnswers = c :: rest) :
    engineDisable settings s = { s with
      seqStep := .rule 104
      ctrlAnswers := rest
      ctrl := (if c.getLsbD 12 then { s.ctrl with cmd := 0 } else s.ctrl : CtrlRegs)
      trace := s.trace ++ (.rd .cmd c :: (if c.getLsbD 12 then [.wr .cmd 0] else [])) } := by
  have h' : (s.atRule 104).ctrlAnswers = c :: rest := h
  have e : settings.cmdEn = 12 := rfl
  unfold engineDisable
  dsimp only
  rw [afterRead_of_cons h', answer_of_cons h, e]
  by_cases hb : c.getLsbD 12 = true
  · rw [if_pos hb, if_pos hb, if_pos hb]
    simp [State.regWrite, State.setCtrl, State.emit, State.atRule, CtrlRegs.set]
  · rw [if_neg hb, if_neg hb, if_neg hb]
    rfl

/-- `s` still has the answers `answers` to come, has performed `events` and has the marker `marker`: all that the next
event of an operation depends on. -/
structure At (answers : List Word) (events : List Event) (marker : Bool) (s : State) : Prop where
  answers : s.ctrlAnswers = answers
  events : s.trace = events
  marker : s.nextIsAcmd = marker

theorem At.atRule {l : List Word} {evs : List Event} {m : Bool} {s : State} (h : At l evs m s) (n : Nat) :
    At l evs m (s.atRule n) := ⟨h.1, h.2, h.3⟩

theorem At.regWrite {l : List Word} {evs : List Event} {m : Bool} {s : State} (h : At l evs m s) (r : Reg) (v : Word) :
    At l (evs ++ [Event.wr r v]) m (s.regWrite r v) := ⟨h.1, by simp [h.2], h.3⟩

theorem At.afterRead {v : Word} {l : List Word} {evs : List Event} {m : Bool} {s : State} (h : At (v :: l) evs m s)
    (r : Reg) : s.answer r = v ∧ At l (evs ++ [Event.rd r v]) m (s.afterRead r) := by
  refine ⟨answer_of_cons h.1 r, ?_⟩
  rw [afterRead_of_cons h.1]
  exact ⟨rfl, by simp [h.2], h.3⟩

/-- Step 1 (40_command_dispatch.md R104). -/
theorem At.engineDisable {c : Word} {l : List Word} {evs : List Event} {m : Bool} {s : State} (cfg : Cfg)
    (h : At (c :: l) evs m s) : At l (evs ++ [Event.rd .cmd c] ++ (if c.getLsbD cfg.cmdEn then [Event.wr .cmd 0] else [])) m
      (engineDisable cfg s) := by
  unfold Machine.engineDisable
  have k := (h.atRule 104).afterRead .cmd
  dsimp only
  rw [(h.afterRead .cmd).1]
  split
  · exact k.2.regWrite _ _
  · simpa using k.2

/-- Steps 4 to 7 (40_command_dispatch.md R107 to R110). -/
theorem At.issueCommand {l : List Word} {evs : List Event} {m : Bool} {s : State} (cfg : Cfg) (d : CommandDescriptor)
    (h : At l evs m s) : At l (evs ++ [Event.wr .icr cfg.staticFlags] ++ (if d.trans || m then [] else [Event.wr .dctrl 0]) ++
      [Event.wr .arg (augment cfg d.idx d.arg), .wr .cmd (controlWord cfg d.idx d.kind d.trans d.stop)]) m
      (issueCommand cfg d s) := by
  have k := ((h.atRule 108).regWrite .icr cfg.staticFlags).atRule 109
  have k' : At l (evs ++ [Event.wr .icr cfg.staticFlags] ++ (if d.trans || m then [] else [Event.wr .dctrl 0])) m
      (clearDataControl d ((s.atRule 108).regWrite .icr cfg.staticFlags)) := by
    unfold clearDataControl
    dsimp only
    rw [k.marker]
    cases d.trans <;> cases m <;> simp
    · simpa using k.regWrite .dctrl 0
    all_goals simpa using k
  have k'' := ((k'.atRule 110).regWrite .arg (augment cfg d.idx d.arg)).regWrite .cmd
    (controlWord cfg d.idx d.kind d.trans d.stop)
  exact ⟨k''.1, k''.2.trans (by simp), k''.3⟩

/-- Step 12 (40_command_dispatch.md R117). -/
theorem At.exitPath {c : Word} {l : List Word} {evs : List Event} {m : Bool} {s : State} (cfg : Cfg)
    (h : At (c :: l) evs m s) : At l (evs ++ [Event.wr .icr cfg.staticFlags, .rd .cmd c,
      .wr .cmd (c &&& ~~~bit cfg.cmdTrans)]) m (exitPath cfg s) := by
  unfold Machine.exitPath
  obtain ⟨e, k⟩ := ((h.atRule 117).regWrite .icr cfg.staticFlags).afterRead .cmd
  dsimp only
  rw [e]
  have k' := k.regWrite .cmd (c &&& ~~~bit cfg.cmdTrans)
  exact ⟨k'.1, k'.2.trans (by simp), k'.3⟩

/-- The data registers (41_data_path.md R155 to R157). -/
theorem At.programTransfer {d : Word} {l : List Word} {evs : List Event} {m : Bool} {s : State} (cfg : Cfg)
    (t : TransferDescriptor) (h : At (d :: l) evs m s) : At l (evs ++ [Event.wr .dtimer cfg.dtimerMax, .wr .dlen t.n,
      .wr .idmabase t.buf, .rd .dctrl d, .wr .dctrl (dctrlWord cfg d t.e), .wr .idmactrl (bit cfg.idmaEn)]) m
      (programTransfer cfg t s) := by
  unfold Machine.programTransfer
  obtain ⟨e, k⟩ := ((((h.atRule 155).regWrite .dtimer cfg.dtimerMax).regWrite .dlen t.n).regWrite .idmabase
    t.buf).afterRead .dctrl
  dsimp only
  rw [e]
  have k' := (k.regWrite .dctrl (dctrlWord cfg d t.e)).regWrite .idmactrl (bit cfg.idmaEn)
  exact ⟨k'.1, k'.2.trans (by simp), k'.3⟩

/-- The descriptor of a command that is not data-bearing, whatever the marker. -/
theorem describe_of_not_bearing {idx : Idx} {arg : Word} (h : dataBearing settings idx arg = false) (marker : Bool) :
    describe settings idx arg marker =
      { idx := idx, arg := arg, kind := Config.respKindOf idx, trans := false, stop := idx == 12 } := by
  unfold describe
  rw [h]
  rfl

/-- A command that is not data-bearing is dispatched. -/
theorem sendCommand_of_not_bearing {idx : Idx} {arg : Word} (h : dataBearing settings idx arg = false) (s : State) :
    sendCommand settings idx arg s =
      finish (dispatch settings idx arg true s).status (dispatch settings idx arg true s).state := by
  unfold sendCommand
  rw [if_neg (by simp [h])]

/-- The awaited command bits: timeout, and command-sent for index 0, else command-complete and, for the kinds with a
crc check, crc-fail (30_encoding.md R74). -/
theorem cmdMask_getLsbD (idx : Idx) (kind : DescKind) (i : Nat) : (cmdMask settings idx kind).getLsbD i =
    (decide (i = 2) || (if idx = 0 then decide (i = 7)
      else (decide (i = 6) || (decide (kind = .short ∨ kind = .busy) && decide (i = 0))))) := by
  have e : cmdMask settings idx kind =
      4#32 ||| (if idx = 0 then 0x80#32 else 0x40#32 ||| (if kind = .short ∨ kind = .busy then 1#32 else 0#32)) := by rfl
  rw [e]
  by_cases hi : i < 32
  · split_ifs <;> simp [*] <;> interval_cases i <;> simp
  · rw [BitVec.getLsbD_of_ge _ _ (by omega)]
    have h0 : i ≠ 0 := by omega
    have h2 : i ≠ 2 := by omega
    have h6 : i ≠ 6 := by omega
    have h7 : i ≠ 7 := by omega
    split_ifs <;> simp [*]

end Sys2Proof.Machine
end

