-- ==== Sys2Proof/Laws/Encoding.lean ====
section
/-! SUPPORT. The fields of a packed request, a request packed again from its fields, and when the high bits of a word
are 0 (spec/30_encoding.md R61, R78). -/

namespace Sys2Proof

@[simp] theorem op_packRequest (op : BitVec 4) (a0 a1 a2 : Word) : (packRequest op a0 a1 a2).op = op := by
  apply BitVec.eq_of_getLsbD_eq
  intro i hi
  simp only [Request.op, packRequest, BitVec.getLsbD_extractLsb', BitVec.getLsbD_append]
  simp [hi]

@[simp] theorem a0_packRequest (op : BitVec 4) (a0 a1 a2 : Word) : (packRequest op a0 a1 a2).a0 = a0 := by
  apply BitVec.eq_of_getLsbD_eq
  intro i hi
  simp only [Request.a0, packRequest, BitVec.getLsbD_extractLsb', BitVec.getLsbD_append]
  simp [hi]

@[simp] theorem a1_packRequest (op : BitVec 4) (a0 a1 a2 : Word) : (packRequest op a0 a1 a2).a1 = a1 := by
  apply BitVec.eq_of_getLsbD_eq
  intro i hi
  have h : 36 + i - 4 - 32 = i := by omega
  simp only [Request.a1, packRequest, BitVec.getLsbD_extractLsb', BitVec.getLsbD_append]
  rw [if_neg (by omega), if_neg (by omega), if_pos (by omega), h]
  simp [hi]

@[simp] theorem a2_packRequest (op : BitVec 4) (a0 a1 a2 : Word) : (packRequest op a0 a1 a2).a2 = a2 := by
  apply BitVec.eq_of_getLsbD_eq
  intro i hi
  have h : 68 + i - 4 - 32 - 32 = i := by omega
  simp only [Request.a2, packRequest, BitVec.getLsbD_extractLsb', BitVec.getLsbD_append]
  rw [if_neg (by omega), if_neg (by omega), if_neg (by omega), h]
  simp [hi]

/-- A request is its four fields side by side. -/
theorem packRequest_fields (req : Request) : packRequest req.op req.a0 req.a1 req.a2 = req := by
  apply BitVec.eq_of_getLsbD_eq
  intro i hi
  simp only [packRequest, Request.op, Request.a0, Request.a1, Request.a2, BitVec.getLsbD_extractLsb',
    BitVec.getLsbD_append]
  rcases Nat.lt_or_ge i 4 with h | h
  · simp [h]
  rcases Nat.lt_or_ge i 36 with h' | h'
  · rw [if_neg (by omega), if_pos (by omega), show 4 + (i - 4) = i by omega]
    simp [show i - 4 < 32 by omega]
  rcases Nat.lt_or_ge i 68 with h'' | h''
  · rw [if_neg (by omega), if_neg (by omega), if_pos (by omega), show 36 + (i - 4 - 32) = i by omega]
    simp [show i - 4 - 32 < 32 by omega]
  · rw [if_neg (by omega), if_neg (by omega), if_neg (by omega), show 68 + (i - 4 - 32 - 32) = i by omega]
    simp [show i - 4 - 32 - 32 < 32 by omega]

/-- Masking a packed request masks each field. -/
theorem packRequest_and (op op' : BitVec 4) (a0 a1 a2 a0' a1' a2' : Word) :
    packRequest op a0 a1 a2 &&& packRequest op' a0' a1' a2' =
      packRequest (op &&& op') (a0 &&& a0') (a1 &&& a1') (a2 &&& a2') := by
  apply BitVec.eq_of_getLsbD_eq
  intro i hi
  simp only [packRequest, BitVec.getLsbD_append, BitVec.getLsbD_and]
  split_ifs <;> rfl

/-- The bits of a word from bit `n` up are 0 exactly when the word is below `2^n`. -/
theorem high_bits_eq_zero_iff (a : Word) {n : Nat} (hn : n ≤ 32) :
    a.extractLsb' n (32 - n) = 0 ↔ a.toNat < 2 ^ n := by
  have ha := a.isLt
  rw [← BitVec.toNat_inj]
  simp only [BitVec.extractLsb'_toNat, BitVec.ofNat_eq_ofNat, BitVec.toNat_ofNat, Nat.zero_mod]
  rw [Nat.mod_eq_of_lt, Nat.shiftRight_eq_div_pow, Nat.div_eq_zero_iff]
  · simp
  · rw [Nat.shiftRight_eq_div_pow, Nat.div_lt_iff_lt_mul (by positivity), ← pow_add]
    rwa [show 32 - n + n = 32 by omega]

/-- In the machine's configuration a SEND_COMMAND is reserved exactly when `a0` is 64 or more (30_encoding.md R63). -/
theorem decodeCommand_settings (a0 a1 : Word) : decodeCommand Machine.settings a0 a1 =
    if a0.toNat < 64 then .op (Instr.sendcmd (a0.setWidth 6) a1) else .reserved .reservedCommandBits := rfl

end Sys2Proof
end

