-- ==== Sys2Proof/Laws/PerInstr.lean ====
section
/-! SUPPORT. Lemmas about the fields of a request word, and for each constructor of Instr that its request word is
claimed by its row of spec/opcode_table.json. -/

namespace Sys2Proof

/-- The header of a packed request: the low bits of `a0` above `op`. -/
theorem header_packRequest (op : BitVec 4) (a0 a1 a2 : Word) :
    (packRequest op a0 a1 a2).header = a0.extractLsb' 0 6 ++ op := by
  apply BitVec.eq_of_getLsbD_eq
  intro i hi
  simp only [Request.header, packRequest, BitVec.getLsbD_extractLsb', BitVec.getLsbD_append]
  rcases Nat.lt_or_ge i 4 with h | h
  · simp [h, hi]
  · have h6 : i - 4 < 6 := by omega
    have h32 : i - 4 < 32 := by omega
    simp [Nat.not_lt.2 h, hi, h6, h32]

/-- A row of mask `0x00F` claims every header whose `op` field is its own. -/
theorem claims_opRow (x : BitVec 6) (op : BitVec 4) : (opRow op).claims (x ++ op) = true := by
  simp only [OpcodeRow.claims, opRow, beq_iff_eq]
  apply BitVec.eq_of_getLsbD_eq
  intro i hi
  rw [BitVec.getLsbD_and, BitVec.getLsbD_append]
  rcases Nat.lt_or_ge i 4 with h | h
  · have hm : (0x00F#10).getLsbD i = true := by interval_cases i <;> decide
    simp [h, hm, hi]
  · have hm : (0x00F#10).getLsbD i = false := by interval_cases i <;> decide
    simp [hm, h]

end Sys2Proof

namespace Sys2Proof.Laws.RowHeader

/-- The header of the request word of `i` is one that the row of `i` claims (30_encoding.md R80). -/
def Statement (i : Instr) : Prop := i.row.claims (encode i).header = true

theorem cardp : Statement (.cardp) := by
  unfold Statement encode
  rw [header_packRequest]
  exact claims_opRow _ _

theorem rdonly : Statement (.rdonly) := by
  unfold Statement encode
  rw [header_packRequest]
  exact claims_opRow _ _

theorem devpath : Statement (.devpath) := by
  unfold Statement encode
  rw [header_packRequest]
  exact claims_opRow _ _

theorem notify (state : Word) : Statement (.notify state) := by
  unfold Statement encode
  rw [header_packRequest]
  exact claims_opRow _ _

theorem setbus (width : Word) (clock : Word) (timing : Word) : Statement (.setbus width clock timing) := by
  unfold Statement encode
  rw [header_packRequest]
  exact claims_opRow _ _

theorem sendcmd0 (arg : Word) : Statement (.sendcmd0 arg) := by
  unfold Statement encode
  rw [header_packRequest]
  change (commandRow 0).claims _ = true
  decide

theorem sendcmd1 (arg : Word) : Statement (.sendcmd1 arg) := by
  unfold Statement encode
  rw [header_packRequest]
  change (commandRow 1).claims _ = true
  decide

theorem sendcmd2 (arg : Word) : Statement (.sendcmd2 arg) := by
  unfold Statement encode
  rw [header_packRequest]
  change (commandRow 2).claims _ = true
  decide

theorem sendcmd3 (arg : Word) : Statement (.sendcmd3 arg) := by
  unfold Statement encode
  rw [header_packRequest]
  change (commandRow 3).claims _ = true
  decide

theorem sendcmd4 (arg : Word) : Statement (.sendcmd4 arg) := by
  unfold Statement encode
  rw [header_packRequest]
  change (commandRow 4).claims _ = true
  decide

theorem sendcmd5 (arg : Word) : Statement (.sendcmd5 arg) := by
  unfold Statement encode
  rw [header_packRequest]
  change (commandRow 5).claims _ = true
  decide

theorem sendcmd6 (arg : Word) : Statement (.sendcmd6 arg) := by
  unfold Statement encode
  rw [header_packRequest]
  change (commandRow 6).claims _ = true
  decide

theorem sendcmd7 (arg : Word) : Statement (.sendcmd7 arg) := by
  unfold Statement encode
  rw [header_packRequest]
  change (commandRow 7).claims _ = true
  decide

theorem sendcmd8 (arg : Word) : Statement (.sendcmd8 arg) := by
  unfold Statement encode
  rw [header_packRequest]
  change (commandRow 8).claims _ = true
  decide

theorem sendcmd9 (arg : Word) : Statement (.sendcmd9 arg) := by
  unfold Statement encode
  rw [header_packRequest]
  change (commandRow 9).claims _ = true
  decide

theorem sendcmd10 (arg : Word) : Statement (.sendcmd10 arg) := by
  unfold Statement encode
  rw [header_packRequest]
  change (commandRow 10).claims _ = true
  decide

theorem sendcmd11 (arg : Word) : Statement (.sendcmd11 arg) := by
  unfold Statement encode
  rw [header_packRequest]
  change (commandRow 11).claims _ = true
  decide

theorem sendcmd12 (arg : Word) : Statement (.sendcmd12 arg) := by
  unfold Statement encode
  rw [header_packRequest]
  change (commandRow 12).claims _ = true
  decide

theorem sendcmd13 (arg : Word) : Statement (.sendcmd13 arg) := by
  unfold Statement encode
  rw [header_packRequest]
  change (commandRow 13).claims _ = true
  decide

theorem sendcmd14 (arg : Word) : Statement (.sendcmd14 arg) := by
  unfold Statement encode
  rw [header_packRequest]
  change (commandRow 14).claims _ = true
  decide

theorem sendcmd15 (arg : Word) : Statement (.sendcmd15 arg) := by
  unfold Statement encode
  rw [header_packRequest]
  change (commandRow 15).claims _ = true
  decide

theorem sendcmd16 (arg : Word) : Statement (.sendcmd16 arg) := by
  unfold Statement encode
  rw [header_packRequest]
  change (commandRow 16).claims _ = true
  decide

theorem sendcmd17 (arg : Word) : Statement (.sendcmd17 arg) := by
  unfold Statement encode
  rw [header_packRequest]
  change (commandRow 17).claims _ = true
  decide

theorem sendcmd18 (arg : Word) : Statement (.sendcmd18 arg) := by
  unfold Statement encode
  rw [header_packRequest]
  change (commandRow 18).claims _ = true
  decide

theorem sendcmd19 (arg : Word) : Statement (.sendcmd19 arg) := by
  unfold Statement encode
  rw [header_packRequest]
  change (commandRow 19).claims _ = true
  decide

theorem sendcmd20 (arg : Word) : Statement (.sendcmd20 arg) := by
  unfold Statement encode
  rw [header_packRequest]
  change (commandRow 20).claims _ = true
  decide

theorem sendcmd21 (arg : Word) : Statement (.sendcmd21 arg) := by
  unfold Statement encode
  rw [header_packRequest]
  change (commandRow 21).claims _ = true
  decide

theorem sendcmd22 (arg : Word) : Statement (.sendcmd22 arg) := by
  unfold Statement encode
  rw [header_packRequest]
  change (commandRow 22).claims _ = true
  decide

theorem sendcmd23 (arg : Word) : Statement (.sendcmd23 arg) := by
  unfold Statement encode
  rw [header_packRequest]
  change (commandRow 23).claims _ = true
  decide

theorem sendcmd24 (arg : Word) : Statement (.sendcmd24 arg) := by
  unfold Statement encode
  rw [header_packRequest]
  change (commandRow 24).claims _ = true
  decide

theorem sendcmd25 (arg : Word) : Statement (.sendcmd25 arg) := by
  unfold Statement encode
  rw [header_packRequest]
  change (commandRow 25).claims _ = true
  decide

theorem sendcmd26 (arg : Word) : Statement (.sendcmd26 arg) := by
  unfold Statement encode
  rw [header_packRequest]
  change (commandRow 26).claims _ = true
  decide

theorem sendcmd27 (arg : Word) : Statement (.sendcmd27 arg) := by
  unfold Statement encode
  rw [header_packRequest]
  change (commandRow 27).claims _ = true
  decide

theorem sendcmd28 (arg : Word) : Statement (.sendcmd28 arg) := by
  unfold Statement encode
  rw [header_packRequest]
  change (commandRow 28).claims _ = true
  decide

theorem sendcmd29 (arg : Word) : Statement (.sendcmd29 arg) := by
  unfold Statement encode
  rw [header_packRequest]
  change (commandRow 29).claims _ = true
  decide

theorem sendcmd30 (arg : Word) : Statement (.sendcmd30 arg) := by
  unfold Statement encode
  rw [header_packRequest]
  change (commandRow 30).claims _ = true
  decide

theorem sendcmd31 (arg : Word) : Statement (.sendcmd31 arg) := by
  unfold Statement encode
  rw [header_packRequest]
  change (commandRow 31).claims _ = true
  decide

theorem sendcmd32 (arg : Word) : Statement (.sendcmd32 arg) := by
  unfold Statement encode
  rw [header_packRequest]
  change (commandRow 32).claims _ = true
  decide

theorem sendcmd33 (arg : Word) : Statement (.sendcmd33 arg) := by
  unfold Statement encode
  rw [header_packRequest]
  change (commandRow 33).claims _ = true
  decide

theorem sendcmd34 (arg : Word) : Statement (.sendcmd34 arg) := by
  unfold Statement encode
  rw [header_packRequest]
  change (commandRow 34).claims _ = true
  decide

theorem sendcmd35 (arg : Word) : Statement (.sendcmd35 arg) := by
  unfold Statement encode
  rw [header_packRequest]
  change (commandRow 35).claims _ = true
  decide

theorem sendcmd36 (arg : Word) : Statement (.sendcmd36 arg) := by
  unfold Statement encode
  rw [header_packRequest]
  change (commandRow 36).claims _ = true
  decide

theorem sendcmd37 (arg : Word) : Statement (.sendcmd37 arg) := by
  unfold Statement encode
  rw [header_packRequest]
  change (commandRow 37).claims _ = true
  decide

theorem sendcmd38 (arg : Word) : Statement (.sendcmd38 arg) := by
  unfold Statement encode
  rw [header_packRequest]
  change (commandRow 38).claims _ = true
  decide

theorem sendcmd39 (arg : Word) : Statement (.sendcmd39 arg) := by
  unfold Statement encode
  rw [header_packRequest]
  change (commandRow 39).claims _ = true
  decide

theorem sendcmd40 (arg : Word) : Statement (.sendcmd40 arg) := by
  unfold Statement encode
  rw [header_packRequest]
  change (commandRow 40).claims _ = true
  decide

theorem sendcmd41 (arg : Word) : Statement (.sendcmd41 arg) := by
  unfold Statement encode
  rw [header_packRequest]
  change (commandRow 41).claims _ = true
  decide

theorem sendcmd42 (arg : Word) : Statement (.sendcmd42 arg) := by
  unfold Statement encode
  rw [header_packRequest]
  change (commandRow 42).claims _ = true
  decide

theorem sendcmd43 (arg : Word) : Statement (.sendcmd43 arg) := by
  unfold Statement encode
  rw [header_packRequest]
  change (commandRow 43).claims _ = true
  decide

theorem sendcmd44 (arg : Word) : Statement (.sendcmd44 arg) := by
  unfold Statement encode
  rw [header_packRequest]
  change (commandRow 44).claims _ = true
  decide

theorem sendcmd45 (arg : Word) : Statement (.sendcmd45 arg) := by
  unfold Statement encode
  rw [header_packRequest]
  change (commandRow 45).claims _ = true
  decide

theorem sendcmd46 (arg : Word) : Statement (.sendcmd46 arg) := by
  unfold Statement encode
  rw [header_packRequest]
  change (commandRow 46).claims _ = true
  decide

theorem sendcmd47 (arg : Word) : Statement (.sendcmd47 arg) := by
  unfold Statement encode
  rw [header_packRequest]
  change (commandRow 47).claims _ = true
  decide

theorem sendcmd48 (arg : Word) : Statement (.sendcmd48 arg) := by
  unfold Statement encode
  rw [header_packRequest]
  change (commandRow 48).claims _ = true
  decide

theorem sendcmd49 (arg : Word) : Statement (.sendcmd49 arg) := by
  unfold Statement encode
  rw [header_packRequest]
  change (commandRow 49).claims _ = true
  decide

theorem sendcmd50 (arg : Word) : Statement (.sendcmd50 arg) := by
  unfold Statement encode
  rw [header_packRequest]
  change (commandRow 50).claims _ = true
  decide

theorem sendcmd51 (arg : Word) : Statement (.sendcmd51 arg) := by
  unfold Statement encode
  rw [header_packRequest]
  change (commandRow 51).claims _ = true
  decide

theorem sendcmd52 (arg : Word) : Statement (.sendcmd52 arg) := by
  unfold Statement encode
  rw [header_packRequest]
  change (commandRow 52).claims _ = true
  decide

theorem sendcmd53 (arg : Word) : Statement (.sendcmd53 arg) := by
  unfold Statement encode
  rw [header_packRequest]
  change (commandRow 53).claims _ = true
  decide

theorem sendcmd54 (arg : Word) : Statement (.sendcmd54 arg) := by
  unfold Statement encode
  rw [header_packRequest]
  change (commandRow 54).claims _ = true
  decide

theorem sendcmd55 (arg : Word) : Statement (.sendcmd55 arg) := by
  unfold Statement encode
  rw [header_packRequest]
  change (commandRow 55).claims _ = true
  decide

theorem sendcmd56 (arg : Word) : Statement (.sendcmd56 arg) := by
  unfold Statement encode
  rw [header_packRequest]
  change (commandRow 56).claims _ = true
  decide

theorem sendcmd57 (arg : Word) : Statement (.sendcmd57 arg) := by
  unfold Statement encode
  rw [header_packRequest]
  change (commandRow 57).claims _ = true
  decide

theorem sendcmd58 (arg : Word) : Statement (.sendcmd58 arg) := by
  unfold Statement encode
  rw [header_packRequest]
  change (commandRow 58).claims _ = true
  decide

theorem sendcmd59 (arg : Word) : Statement (.sendcmd59 arg) := by
  unfold Statement encode
  rw [header_packRequest]
  change (commandRow 59).claims _ = true
  decide

theorem sendcmd60 (arg : Word) : Statement (.sendcmd60 arg) := by
  unfold Statement encode
  rw [header_packRequest]
  change (commandRow 60).claims _ = true
  decide

theorem sendcmd61 (arg : Word) : Statement (.sendcmd61 arg) := by
  unfold Statement encode
  rw [header_packRequest]
  change (commandRow 61).claims _ = true
  decide

theorem sendcmd62 (arg : Word) : Statement (.sendcmd62 arg) := by
  unfold Statement encode
  rw [header_packRequest]
  change (commandRow 62).claims _ = true
  decide

theorem sendcmd63 (arg : Word) : Statement (.sendcmd63 arg) := by
  unfold Statement encode
  rw [header_packRequest]
  change (commandRow 63).claims _ = true
  decide

theorem recvrsp (kind : BitVec 3) (out : Word) : Statement (.recvrsp kind out) := by
  unfold Statement encode
  rw [header_packRequest]
  exact claims_opRow _ _

theorem rdblk (address : Word) (length : Word) (buffer : Word) : Statement (.rdblk address length buffer) := by
  unfold Statement encode
  rw [header_packRequest]
  exact claims_opRow _ _

theorem wrblk (address : Word) (length : Word) (buffer : Word) : Statement (.wrblk address length buffer) := by
  unfold Statement encode
  rw [header_packRequest]
  exact claims_opRow _ _

end Sys2Proof.Laws.RowHeader
end

