-- ==== Sys2Proof/Tests/Slice0.lean ====
section
/-! SUPPORT. Tests of the model against spec/95_test_vectors.md and the encoding rules, and a witness for each
statement that has hypotheses. A trace is checked on the reference configuration `cfgRef`, the one the vectors use. -/

open Sys2Proof Sys2Proof.Machine

/-! ### Encoding (30_encoding.md; 95_test_vectors.md tables E-1 to E-5) -/

theorem test_wellFormed_refuses_reserved_kinds :
    (Instr.recvrsp 6 0x20002000).wellFormed = false ∧ (Instr.recvrsp 7 0).wellFormed = false ∧
      (Instr.recvrsp 5 0).wellFormed = true := by decide

theorem test_decode_host_surface :
    decode 0x0000000000000000000000000 = .op .cardp ∧ decode 0x0000000000000000000000001 = .op .rdonly ∧
      decode 0x0000000000000000000000002 = .op .devpath ∧ decode 0x0000000000000000000000033 = .op (.notify 3) ∧
      decode 0x00000000017D7840000000044 = .op (.setbus 4 25000000 0) ∧
      decode 0x0000000000000000000000024 = .op (.setbus 2 0 0) := by decide

theorem test_decode_data_path :
    decode 0x2000000000000200000012347 = .op (.rdblk 0x1234 512 0x20000000) ∧
      decode 0x2000000000000800000000007 = .op (.rdblk 0 2048 0x20000000) ∧
      decode 0x2000000000000200000000008 = .op (.wrblk 0 512 0x20000000) := by decide

theorem test_decode_response_reader :
    decode 0x0000000020002000000000036 = .op (.recvrsp 3 0x20002000) ∧
      decode 0x0000000020002000000000056 = .op (.recvrsp 5 0x20002000) ∧
      decode 0x0000000000000000000000006 = .op (.recvrsp 0 0) := by decide

theorem test_decode_ignores_unused_operands :
    decode 0xFFFFFFFFFFFFFFFFFFFFFFFF0 = .op .cardp ∧
      decode 0xFFFFFFFF20002000000000056 = .op (.recvrsp 5 0x20002000) := by decide

theorem test_decode_reserved :
    decode 0x0000000000000000000000009 = .reserved .reservedOp ∧
      decode 0xFFFFFFFFFFFFFFFFFFFFFFFFF = .reserved .reservedOp ∧
      decode 0x0000000000000000000000405 = .reserved .reservedCommandBits ∧
      decode 0x0000000020002000000000066 = .reserved .reservedKind ∧
      decode 0x0000000000000000000000086 = .reserved .reservedResponseBits := by decide

/-- 00_scope.md R6, table field IDX_BITS: with six bits index 63 is the last, with five bits index 31 is. -/
theorem test_index_width_is_configured :
    decodeCommand cfgRef 63 7 = .op (.sendcmd63 7) ∧ decodeCommand cfgRef 64 7 = .reserved .reservedCommandBits ∧
      decodeCommand { cfgRef with idxBits := 5 } 31 7 = .op (.sendcmd31 7) ∧
      decodeCommand { cfgRef with idxBits := 5 } 32 7 = .reserved .reservedCommandBits := by decide

/-! Every command index: `op` 5, the index in `a0`, the argument in `a1`. -/

theorem test_decode_sendcmd_0_to_15 :
    ([
      0x12340000000000005, 0x12340001000000015, 0x12340002000000025, 0x12340003000000035, 0x12340004000000045,
      0x12340005000000055, 0x12340006000000065, 0x12340007000000075, 0x12340008000000085, 0x12340009000000095,
      0x1234000A0000000A5, 0x1234000B0000000B5, 0x1234000C0000000C5, 0x1234000D0000000D5, 0x1234000E0000000E5,
      0x1234000F0000000F5] :
        List Request).map decode = [
      .op (.sendcmd0 0x12340000), .op (.sendcmd1 0x12340001), .op (.sendcmd2 0x12340002), .op (.sendcmd3 0x12340003),
      .op (.sendcmd4 0x12340004), .op (.sendcmd5 0x12340005), .op (.sendcmd6 0x12340006), .op (.sendcmd7 0x12340007),
      .op (.sendcmd8 0x12340008), .op (.sendcmd9 0x12340009), .op (.sendcmd10 0x1234000A),
      .op (.sendcmd11 0x1234000B), .op (.sendcmd12 0x1234000C), .op (.sendcmd13 0x1234000D),
      .op (.sendcmd14 0x1234000E), .op (.sendcmd15 0x1234000F)] := by decide

theorem test_decode_sendcmd_16_to_31 :
    ([
      0x12340010000000105, 0x12340011000000115, 0x12340012000000125, 0x12340013000000135, 0x12340014000000145,
      0x12340015000000155, 0x12340016000000165, 0x12340017000000175, 0x12340018000000185, 0x12340019000000195,
      0x1234001A0000001A5, 0x1234001B0000001B5, 0x1234001C0000001C5, 0x1234001D0000001D5, 0x1234001E0000001E5,
      0x1234001F0000001F5] :
        List Request).map decode = [
      .op (.sendcmd16 0x12340010), .op (.sendcmd17 0x12340011), .op (.sendcmd18 0x12340012),
      .op (.sendcmd19 0x12340013), .op (.sendcmd20 0x12340014), .op (.sendcmd21 0x12340015),
      .op (.sendcmd22 0x12340016), .op (.sendcmd23 0x12340017), .op (.sendcmd24 0x12340018),
      .op (.sendcmd25 0x12340019), .op (.sendcmd26 0x1234001A), .op (.sendcmd27 0x1234001B),
      .op (.sendcmd28 0x1234001C), .op (.sendcmd29 0x1234001D), .op (.sendcmd30 0x1234001E),
      .op (.sendcmd31 0x1234001F)] := by decide

theorem test_decode_sendcmd_32_to_47 :
    ([
      0x12340020000000205, 0x12340021000000215, 0x12340022000000225, 0x12340023000000235, 0x12340024000000245,
      0x12340025000000255, 0x12340026000000265, 0x12340027000000275, 0x12340028000000285, 0x12340029000000295,
      0x1234002A0000002A5, 0x1234002B0000002B5, 0x1234002C0000002C5, 0x1234002D0000002D5, 0x1234002E0000002E5,
      0x1234002F0000002F5] :
        List Request).map decode = [
      .op (.sendcmd32 0x12340020), .op (.sendcmd33 0x12340021), .op (.sendcmd34 0x12340022),
      .op (.sendcmd35 0x12340023), .op (.sendcmd36 0x12340024), .op (.sendcmd37 0x12340025),
      .op (.sendcmd38 0x12340026), .op (.sendcmd39 0x12340027), .op (.sendcmd40 0x12340028),
      .op (.sendcmd41 0x12340029), .op (.sendcmd42 0x1234002A), .op (.sendcmd43 0x1234002B),
      .op (.sendcmd44 0x1234002C), .op (.sendcmd45 0x1234002D), .op (.sendcmd46 0x1234002E),
      .op (.sendcmd47 0x1234002F)] := by decide

theorem test_decode_sendcmd_48_to_63 :
    ([
      0x12340030000000305, 0x12340031000000315, 0x12340032000000325, 0x12340033000000335, 0x12340034000000345,
      0x12340035000000355, 0x12340036000000365, 0x12340037000000375, 0x12340038000000385, 0x12340039000000395,
      0x1234003A0000003A5, 0x1234003B0000003B5, 0x1234003C0000003C5, 0x1234003D0000003D5, 0x1234003E0000003E5,
      0x1234003F0000003F5] :
        List Request).map decode = [
      .op (.sendcmd48 0x12340030), .op (.sendcmd49 0x12340031), .op (.sendcmd50 0x12340032),
      .op (.sendcmd51 0x12340033), .op (.sendcmd52 0x12340034), .op (.sendcmd53 0x12340035),
      .op (.sendcmd54 0x12340036), .op (.sendcmd55 0x12340037), .op (.sendcmd56 0x12340038),
      .op (.sendcmd57 0x12340039), .op (.sendcmd58 0x1234003A), .op (.sendcmd59 0x1234003B),
      .op (.sendcmd60 0x1234003C), .op (.sendcmd61 0x1234003D), .op (.sendcmd62 0x1234003E),
      .op (.sendcmd63 0x1234003F)] := by decide

theorem test_encode_words :
    encode (.setbus 4 25000000 0) = 0x00000000017D7840000000044 ∧
      encode (.sendcmd63 0xFFFFFFFF) = 0x00000000FFFFFFFF0000003F5 ∧
      encode (.recvrsp 5 0x20002000) = 0x0000000020002000000000056 ∧
      encode (.rdblk 0x1234 512 0x20000000) = 0x2000000000000200000012347 := by decide

theorem test_exponents :
    [1, 2, 4, 8, 16, 32, 64, 128, 256, 512].map (fun n => dctrlWord cfgRef 0 (blockExponent n)) =
      [0x00, 0x10, 0x20, 0x30, 0x40, 0x50, 0x60, 0x70, 0x80, 0x90] := by decide

/-- Vector B-2. -/
theorem test_block_size_field_preserved :
    dctrlWord cfgRef 0xFFFFFFFF (blockExponent 512) = 0xFFFFFF9F ∧
      dctrlWord cfgRef 0xFFFFFFFF (blockExponent 1) = 0xFFFFFF0F := by decide

theorem test_augmentation :
    augment cfgRef 1 0x40FF8080 = 0xC0FF8080 ∧ augment cfgRef 1 0x80000000 = 0x80000000 ∧
      augment cfgRef 41 0x40000000 = 0x40300000 ∧ augment cfgRef 41 0x00300000 = 0x00300000 ∧
      augment cfgRef 8 0x1AA = 0x1AA := by decide

/-! ### The states of the vectors -/

/-- State `(opcode, arg, 1, 0)` of the vectors, with the words CTRL answers the reads with. -/
def latchedState (idx : Idx) (arg : Word) (answers : List Word) : State :=
  { State.reset with latchOpcode := idx, latchArg := arg, pending := true, phase := .deferred, ctrlAnswers := answers }

/-- State `(0, 0, 0, 0)` of the vectors. -/
def idleState (answers : List Word) : State := { State.reset with ctrlAnswers := answers }

/-- The status of the completion delivered last. -/
def statusOf (s : State) : Option Status := s.completion.map (·.status)

/-- The reason of the completion delivered last. -/
def reasonOf (s : State) : Option UsageReason := s.completion.bind (·.reason)

/-! ### SEND_COMMAND (95_test_vectors.md section 2.2) -/

/-- Vector D-1. -/
theorem test_go_idle :
    let t := sendCommand cfgRef 0 0 (idleState [0, 0x80])
    t.trace = [.rd .cmd 0, .wr .icr 0x080005FF, .wr .dctrl 0, .wr .arg 0, .wr .cmd 0x1000, .rd .sta 0x80,
      .wr .icr 0x080005FF] ∧ statusOf t = some .success ∧ t.nextIsAcmd = false := by decide

/-- Vector D-3. -/
theorem test_go_idle_times_out :
    let t := sendCommand cfgRef 0 0 (idleState [0, 0, 0, 0, 0, 0, 0, 0, 0, 0, 0, 0x1000, 0])
    t.trace = [.rd .cmd 0, .wr .icr 0x080005FF, .wr .dctrl 0, .wr .arg 0, .wr .cmd 0x1000, .rd .sta 0, .dly, .rd .sta 0,
      .dly, .rd .sta 0, .dly, .rd .sta 0, .dly, .rd .sta 0, .dly, .rd .sta 0, .dly, .rd .sta 0, .dly, .rd .sta 0, .dly,
      .rd .sta 0, .dly, .rd .sta 0, .dly, .log (.commandError .commandTimeout 0), .wr .icr 0x080005FF,
      .rd .cmd 0x1000, .wr .cmd 0x1000, .rd .sta 0] ∧ statusOf t = some .commandTimeout := by decide

/-- Vector D-5. -/
theorem test_app_cmd_sets_the_marker :
    let t := sendCommand cfgRef 55 0x12340000 (idleState [0x1000, 0x40])
    t.trace = [.rd .cmd 0x1000, .wr .cmd 0, .wr .icr 0x080005FF, .wr .arg 0x12340000, .wr .cmd 0x1137, .rd .sta 0x40,
      .wr .icr 0x080005FF] ∧ t.nextIsAcmd = true ∧ statusOf t = some .success := by decide

/-- Vector D-6. -/
theorem test_polling_primitive_does_not_log :
    (sendCommand cfgRef 8 0x1AA (idleState [0, 4, 0x1108, 4])).trace = [.rd .cmd 0, .wr .icr 0x080005FF, .wr .dctrl 0,
      .wr .arg 0x1AA, .wr .cmd 0x1108, .rd .sta 4, .wr .icr 0x080005FF, .rd .cmd 0x1108, .wr .cmd 0x1108,
      .rd .sta 4] := by decide

/-- Vector D-8. -/
theorem test_crc_failure_is_logged :
    let t := sendCommand cfgRef 13 0x12340000 (idleState [0, 1, 0x110D, 1])
    t.trace = [.rd .cmd 0, .wr .icr 0x080005FF, .wr .dctrl 0, .wr .arg 0x12340000, .wr .cmd 0x110D, .rd .sta 1,
      .log (.commandError .crcFailure 13), .wr .icr 0x080005FF, .rd .cmd 0x110D, .wr .cmd 0x110D, .rd .sta 1] ∧
      statusOf t = some .crcFailure := by decide

/-- Vector D-9. -/
theorem test_timeout_wins_over_crc :
    statusOf (sendCommand cfgRef 13 0x12340000 (idleState [0, 5, 0x110D, 5])) = some .commandTimeout := by decide

/-- Vectors D-10 and D-11: kinds without a crc check ignore the crc bit. -/
theorem test_crc_bit_ignored :
    statusOf (sendCommand cfgRef 41 0x40000000 (idleState [0, 0x41])) = some .success ∧
      statusOf (sendCommand cfgRef 9 0x12340000 (idleState [0, 0x41])) = some .success := by decide

/-- Vector D-12. -/
theorem test_cleanup_succeeds :
    let t := sendCommand cfgRef 7 0x12340000 (idleState [0, 4, 0x1107, 0x1000, 0x1107, 0x40])
    t.trace = [.rd .cmd 0, .wr .icr 0x080005FF, .wr .dctrl 0, .wr .arg 0x12340000, .wr .cmd 0x1107, .rd .sta 4,
      .log (.commandError .commandTimeout 7), .wr .icr 0x080005FF, .rd .cmd 0x1107, .wr .cmd 0x1107, .rd .sta 0x1000,
      .rd .cmd 0x1107, .wr .cmd 0, .wr .icr 0x080005FF, .wr .dctrl 0, .wr .arg 0, .wr .cmd 0x118C, .rd .sta 0x40,
      .wr .icr 0x080005FF] ∧ statusOf t = some .commandTimeout := by decide

/-- Vector D-13: the cleanup's error overrides, and is not cleaned up in turn. -/
theorem test_cleanup_fails :
    let t := sendCommand cfgRef 7 0x12340000 (idleState [0, 4, 0x1107, 0x1000, 0x1107, 1, 0x118C])
    t.trace.drop 16 = [.wr .cmd 0x118C, .rd .sta 1, .log (.commandError .crcFailure 12), .wr .icr 0x080005FF,
      .rd .cmd 0x118C, .wr .cmd 0x118C] ∧ statusOf t = some .crcFailure := by decide

/-- Vectors D-15 and D-16. -/
theorem test_switch_function :
    (sendCommand cfgRef 6 0x00FFFFF0 (idleState [0, 0x40])).trace = [.rd .cmd 0, .wr .icr 0x080005FF, .wr .dctrl 0,
      .wr .arg 0x00FFFFF0, .wr .cmd 0x1106, .rd .sta 0x40, .wr .icr 0x080005FF] ∧
    sendCommand cfgRef 6 0x80FFFFF1 (idleState []) = { latchedState 6 0x80FFFFF1 [] with
      completion := some ⟨.success, 0, none, none⟩ } := by decide

/-- Vector D-17. -/
theorem test_read_single_is_latched_once :
    let t := sendCommand cfgRef 17 0x800 (idleState [])
    t = { latchedState 17 0x800 [] with completion := some ⟨.success, 0, none, none⟩ } ∧
      sendCommand cfgRef 18 0x10 t = { t with completion := some ⟨.usageFault, 0, some .doubleLatch, none⟩ } := by
  decide

/-- Vector D-18. -/
theorem test_command_between_deferral_and_read :
    let t := sendCommand cfgRef 13 0x12340000 (latchedState 17 0x800 [0, 0x40])
    (t.latchOpcode, t.latchArg, t.pending, t.phase) = (17, 0x800, true, .deferred) ∧ t.trace.length = 7 := by decide

/-- Vector D-20: entered with the marker the transfer bit is suppressed. -/
theorem test_transfer_bit_suppressed :
    (dispatch cfgRef 51 0 true { idleState [0, 0x40] with nextIsAcmd := true }).state.trace = [.rd .cmd 0,
      .wr .icr 0x080005FF, .wr .dctrl 0, .wr .arg 0, .wr .cmd 0x1133, .rd .sta 0x40, .wr .icr 0x080005FF] := by decide

/-- Vector D-20: entered without it there is a data phase and a read-modify-write at the end. -/
theorem test_transfer_bit_kept :
    (dispatch cfgRef 51 0 true (idleState [0, 0x40, 0x100, 0x1173])).state.trace = [.rd .cmd 0, .wr .icr 0x080005FF,
      .wr .arg 0, .wr .cmd 0x1173, .rd .sta 0x40, .rd .sta 0x100, .wr .icr 0x080005FF, .rd .cmd 0x1173,
      .wr .cmd 0x1133] := by decide

/-- Vector D-21. -/
theorem test_op_cond_is_augmented :
    (sendCommand cfgRef 1 0x40FF8080 (idleState [0, 0x40])).trace.drop 3 = [.wr .arg 0xC0FF8080, .wr .cmd 0x1201,
      .rd .sta 0x40, .wr .icr 0x080005FF] := by decide

/-! ### READ_BLOCK and WRITE_BLOCK (95_test_vectors.md section 2.3) -/

/-- Vector B-1: the clamp to one block, the data poll, the clear of the transfer bit. -/
theorem test_read_block_clamps :
    let t := readBlock cfgRef 2048 0x20000000 (latchedState 17 0x800 [0, 0x40, 0, 0x1110, 0x40, 0, 0, 0x100, 0x1151])
    t.trace = [.cache 0x20000000 512, .rd .cmd 0, .wr .icr 0x080005FF, .wr .dctrl 0, .wr .arg 512, .wr .cmd 0x1110,
      .rd .sta 0x40, .wr .icr 0x080005FF, .wr .dtimer 0xFFFFFFFF, .wr .dlen 512, .wr .idmabase 0x20000000,
      .rd .dctrl 0, .wr .dctrl 0x90, .wr .idmactrl 1, .rd .cmd 0x1110, .wr .cmd 0, .wr .icr 0x080005FF, .wr .arg 0x800,
      .wr .cmd 0x1151, .rd .sta 0x40, .rd .sta 0, .dly, .rd .sta 0, .dly, .rd .sta 0x100, .wr .icr 0x080005FF,
      .rd .cmd 0x1151, .wr .cmd 0x1111, .cache 0x20000000 512] ∧
    (t.latchOpcode, t.latchArg, t.pending, t.phase, t.nextIsAcmd) = (0, 0, false, .idle, false) ∧
    statusOf t = some .success := by decide

/-- Vector B-3: a failed set-block-length is logged and dropped. -/
theorem test_read_block_soft_failure :
    let t := readBlock cfgRef 512 0x20000000 (latchedState 17 0 [0, 4, 0x1110, 0, 0, 0x1110, 0x40, 0x100, 0x1151])
    (t.trace.drop 6).take 7 = [.rd .sta 4, .log (.commandError .commandTimeout 16), .wr .icr 0x080005FF,
      .rd .cmd 0x1110, .wr .cmd 0x1110, .rd .sta 0, .log (.setBlockLenFailed .commandTimeout)] ∧
    statusOf t = some .success := by decide

/-- Vector B-4: a data error with cleanup; the latch is cleared all the same. -/
theorem test_read_block_data_error_with_cleanup :
    let t := readBlock cfgRef 512 0x20000000 (latchedState 18 0x10
      [0, 0x40, 0, 0x1110, 0x40, 0x1002, 0x1152, 0x1000, 0x1112, 0x40])
    t.trace.drop 20 = [.rd .sta 0x1002, .log (.commandError .dataCrcFailure 18), .wr .icr 0x080005FF, .rd .cmd 0x1152,
      .wr .cmd 0x1112, .rd .sta 0x1000, .rd .cmd 0x1112, .wr .cmd 0, .wr .icr 0x080005FF, .wr .dctrl 0, .wr .arg 0,
      .wr .cmd 0x118C, .rd .sta 0x40, .wr .icr 0x080005FF, .cache 0x20000000 512] ∧
    t.pending = false ∧ statusOf t = some .dataCrcFailure := by decide

/-- Vectors B-5 and B-6. -/
theorem test_read_block_usage_faults :
    reasonOf (readBlock cfgRef 512 0x20000000 (idleState [])) = some .noLatchedCommand ∧
      reasonOf (readBlock cfgRef 24 0x20000000 (latchedState 17 0 [])) = some .badLength ∧
      reasonOf (readBlock cfgRef 0 0x20000000 (latchedState 17 0 [])) = some .badLength ∧
      reasonOf (readBlock cfgRef 511 0x20000000 (latchedState 17 0 [])) = some .badLength ∧
      (latchedState 17 0 []).pending = true := by decide

/-- Vector B-6: lengths above 512 are clamped and accepted. -/
theorem test_long_lengths_are_valid :
    validLength (clampLength cfgRef 513) = true ∧ validLength (clampLength cfgRef 768) = true ∧
      clampLength cfgRef 513 = 512 := by decide

/-- Vector B-8: classification of the data phase. -/
theorem test_data_classification :
    [0x100, 0x400, 0x500, 2, 8, 0x10, 0x20, 0x08000000, 0x120, 0xA].map
      (classifyData cfgRef (dataMask cfgRef 17) true) =
    [.success, .success, .success, .dataCrcFailure, .dataTimeout, .fifoUnderrun, .fifoOverrun, .dmaTransferError,
      .fifoOverrun, .dataCrcFailure] := by decide

/-- Vector B-10. -/
theorem test_switch_function_replay :
    (readBlock cfgRef 64 0x20000100 (latchedState 6 0x80FFFFF1
      [0, 0x40, 0, 0x1110, 0x40, 0x100, 0x1146])).trace.drop 9 = [.wr .dlen 0x40, .wr .idmabase 0x20000100, .rd .dctrl 0,
      .wr .dctrl 0x60, .wr .idmactrl 1, .rd .cmd 0x1110, .wr .cmd 0, .wr .icr 0x080005FF, .wr .arg 0x80FFFFF1,
      .wr .cmd 0x1146, .rd .sta 0x40, .rd .sta 0x100, .wr .icr 0x080005FF, .rd .cmd 0x1146, .wr .cmd 0x1106,
      .cache 0x20000100 64] := by decide

/-- Vector B-12. -/
theorem test_write_block_is_a_stub :
    execWrblk 0 512 0x20000000 (latchedState 17 0x800 []) = .next { latchedState 17 0x800 [] with
      completion := some ⟨.success, 0, none, none⟩ } := by rfl

/-- 20_memory.md R52: the bytes of the armed range are free after the transfer, the byte after it is untouched. -/
theorem test_read_block_leaves_free_bytes :
    let t := readBlock cfgRef 2 0xFFFFFFFF (latchedState 17 0 [0, 0x40, 0, 0x1110, 0x40, 0x100, 0x1151])
    Memory.read t.mem 0xFFFFFFFF = some (Config.idmaByte 0) ∧ Memory.read t.mem 0 = some (Config.idmaByte 1) ∧
      Memory.read t.mem 1 = none := by refine ⟨?_, ?_, ?_⟩ <;> rfl

/-! ### RECEIVE_RESPONSE (95_test_vectors.md section 2.4) -/

/-- Vector R-1. -/
theorem test_response_short :
    (receiveResponse cfgRef 3 0x20002000 (idleState [0x11111111, 0x22222222, 0x33333333, 0x44444444])).trace =
      [.rd .resp1 0x11111111, .memWr 0x20002000 0x11111111, .rd .resp2 0x22222222, .memWr 0x20002004 0x22222222,
        .rd .resp3 0x33333333, .memWr 0x20002008 0x33333333, .rd .resp4 0x44444444,
        .memWr 0x2000200C 0x44444444] := by decide

/-- Vector R-2. -/
theorem test_response_long :
    (receiveResponse cfgRef 5 0x20002000 (idleState [0x44444444, 0x33333333, 0x22222222, 0x11111111])).trace =
      [.rd .resp4 0x44444444, .memWr 0x20002000 0x44444444, .rd .resp3 0x33333333, .memWr 0x20002004 0x33333333,
        .rd .resp2 0x22222222, .memWr 0x20002008 0x22222222, .rd .resp1 0x11111111,
        .memWr 0x2000200C 0x11111111] := by decide

/-- Vector R-4: little-endian bytes, and the wrap past the top of the address space. -/
theorem test_response_bytes_and_wrap :
    (receiveResponse cfgRef 4 0xFFFFFFF8 (idleState [0x1AA, 2, 3, 4])).mem =
      [(0, 3), (1, 0), (2, 0), (3, 0), (4, 4), (5, 0), (6, 0), (7, 0), (0xFFFFFFF8, 0xAA), (0xFFFFFFF9, 1),
        (0xFFFFFFFA, 0), (0xFFFFFFFB, 0), (0xFFFFFFFC, 2), (0xFFFFFFFD, 0), (0xFFFFFFFE, 0), (0xFFFFFFFF, 0)] := by
  decide

/-- 00_scope.md R6, table field ADDR_BITS: byte addresses wrap at the top of the space it gives. -/
theorem test_address_width_is_configured :
    byteAddress cfgRef 0xFFFFFFFF 1 = 0 ∧ byteAddress cfgRef 0xFFFF 1 = 0x10000 ∧
      byteAddress { cfgRef with addrBits := 16 } 0xFFFF 1 = 0 := by decide

/-! ### The host surface (95_test_vectors.md section 2.5) -/

/-- Vectors H-1 and H-2. -/
theorem test_card_present_and_read_only :
    execCardp State.reset = .next { State.reset with completion := some ⟨.success, 1, none, none⟩ } ∧
      execRdonly State.reset = .next { State.reset with completion := some ⟨.success, 0, none, none⟩ } := ⟨rfl, rfl⟩

/-- Vectors H-5, H-6 and H-7. -/
theorem test_bus_widths :
    (setBus cfgRef 4 (idleState [0x0003C0FF])).trace = [.rd .clkcr 0x0003C0FF, .wr .clkcr 0x00034004] ∧
      (setBus cfgRef 8 (idleState [0x0003C0FF])).trace = [.rd .clkcr 0x0003C0FF, .wr .clkcr 0x00038004] ∧
      (setBus cfgRef 0 (idleState [0x0003C0FF])).trace = [.rd .clkcr 0x0003C0FF, .wr .clkcr 0x00030004] := by decide

/-- Vectors H-8 and H-9. -/
theorem test_bad_bus_widths :
    (setBus cfgRef 2 (idleState [0x0003C0FF])).trace = [.log (.badBusWidth 2)] ∧
      (setBus cfgRef 1 (idleState [0x0003C0FF])).trace = [.log (.badBusWidth 1)] := by decide

/-! ### One step -/

theorem test_step_runs_the_fetched_word :
    step (State.reset.withFetchWord 100 0x0000000000000800000000115) = .next { State.reset with
      latchOpcode := 17, latchArg := 0x800, pending := true, phase := .deferred,
      completion := some ⟨.success, 0, none, none⟩ } := by rfl

theorem test_step_refuses_a_reserved_word :
    step (State.reset.withFetchWord 100 0x0000000000000000000000405) = .next { State.reset with
      completion := some ⟨.usageFault, 0, some .reservedEncoding, none⟩ } := by rfl

theorem test_step_waits : step State.reset = .next State.reset := by rfl

theorem test_table_word : decodeTableWord 10 0x3F5 = some (.sendcmd63 0) ∧ decodeTableWord 4 8 = some (.wrblk 0 0 0) ∧
    decodeTableWord 10 0x409 = none := by decide

/-! ### Witnesses: for each statement with hypotheses, states and operands that meet all of them -/

/-- A state between operations with one request waiting. -/
def requestState (req : Request) : State := { State.reset with hostRequests := [req] }

theorem witness_StepKeepsInvariant :
    ∃ t, (requestState 0x0000000000000800000000115).Inv ∧ step (requestState 0x0000000000000800000000115) = .next t :=
  ⟨_, ⟨rfl, rfl, rfl, fun _ => ⟨rfl, rfl⟩, by decide, by decide⟩, rfl⟩

theorem witness_StepRunsTheNextRequest :
    let s := requestState 0x0000000020002000000000056
    s.hostRequests = 0x0000000020002000000000056 :: [] ∧ s.seqStep = .none ∧
      decode 0x0000000020002000000000056 = .op (.recvrsp 5 0x20002000) ∧
      (Instr.recvrsp 5 0x20002000).wellFormed = true := by decide

/-- Each clause at its lowest reserved value; the values just below spell operations. -/
theorem witness_ReservedRequests :
    9 ≤ (Request.op 0x9).toNat ∧ (Request.op 0x405 = 5 ∧ 64 ≤ (Request.a0 0x405).toNat) ∧
      (Request.op 0x66 = 6 ∧ 6 ≤ (Request.a0 0x66).toNat) ∧ (requestState 0x405).hostRequests = [0x405] ∧
      (requestState 0x405).seqStep = .none ∧ decode 0x8 = .op (.wrblk 0 0 0) ∧ decode 0x3F5 = .op (.sendcmd63 0) ∧
      decode 0x56 = .op (.recvrsp 5 0) := by decide

/-- One state for each of the three clauses. -/
theorem witness_StepWaitsOrStops :
    (State.reset.hostRequests = [] ∧ State.reset.seqStep = .none) ∧
      (let s := { State.reset with seqStep := .rule 104 }; s.hostRequests = [] ∧ s.seqStep ≠ .none) ∧
      (let s := { requestState 0 with seqStep := .rule 104 }; s.hostRequests ≠ [] ∧ s.seqStep ≠ .none) := by decide

theorem witness_UnreservedRequestsDecode :
    reservedEncoding 0xFFFFFFFF0000003F5 = false ∧ reservedEncoding 0x56 = false ∧ reservedEncoding 0x8 = false := by
  decide

theorem witness_DecodeOfEncode : (Instr.recvrsp 5 0xFFFFFFFF).wellFormed = true ∧
    (Instr.sendcmd63 0xFFFFFFFF).wellFormed = true := by decide

theorem witness_BlockSizeWord : (1#32 <<< 9) = 512#32 ∧ (9 : Nat) ≤ 9 ∧ (1#32 <<< 0) = 1#32 ∧ (0 : Nat) ≤ 9 := by decide

theorem witness_deferral : State.reset.pending = false := rfl

theorem witness_SecondDataCommandIsRefused :
    (latchedState 17 0 []).pending = true ∧ dataBearing settings 18 0x10 = true ∧
      dataBearing settings 51 0 = true := ⟨rfl, rfl, rfl⟩

theorem witness_PollReadsThenDelays :
    (poll 0x40 2 (idleState [0, 0x40])).hit = true ∧ (poll 0x40 2 (idleState [0, 0])).hit = false ∧ 0 < 2 := by decide

/-- One snapshot for each of the three statuses. -/
theorem witness_CommandPhaseClassifies :
    let d : CommandDescriptor := { idx := 13, arg := 0, kind := .short, trans := false, stop := false }
    (idleState [4]).ctrlAnswers = [] ++ 4 :: [] ∧ (4 : Word) &&& cmdMask settings d.idx d.kind ≠ 0 ∧
      (idleState (List.replicate 9 0 ++ [4])).ctrlAnswers = List.replicate 9 0 ++ 4 :: [] ∧
      (List.replicate 9 (0 : Word)).length < 10 ∧
      (∀ v ∈ List.replicate 9 (0 : Word), v &&& cmdMask settings d.idx d.kind = 0) ∧
      1 &&& cmdMask settings d.idx d.kind ≠ 0 ∧ 0x40 &&& cmdMask settings d.idx d.kind ≠ 0 ∧
      (0x80 : Word) &&& cmdMask settings 0 .none ≠ 0 :=
  ⟨rfl, by decide, rfl, by decide, fun v hv => by rw [List.eq_of_mem_replicate hv]; rfl, by decide, by decide, by decide⟩

/-- Index 0 awaits command-sent, index 55 and every other command-complete. -/
theorem witness_CommandSucceedsOnFirstPoll :
    dataBearing settings 0 0 = false ∧ (idleState [0, 0x80]).ctrlAnswers = 0 :: 0x80 :: [] ∧
      (0x80 : Word).getLsbD 2 = false ∧ (0x80 : Word).getLsbD 0 = false ∧
      (0x80 : Word).getLsbD (if (0 : Idx) = 0 then 7 else 6) = true ∧
      dataBearing settings 55 0 = false ∧ (0x40 : Word).getLsbD (if (55 : Idx) = 0 then 7 else 6) = true := by
  refine ⟨rfl, rfl, rfl, rfl, rfl, rfl, rfl⟩

theorem witness_CommandTimesOutAfterTenPolls :
    dataBearing settings 0 0 = false ∧
      (idleState [0, 0, 0, 0, 0, 0, 0, 0, 0, 0, 0, 0x1000, 0]).ctrlAnswers =
        0 :: (List.replicate 10 0 ++ 0x1000 :: 0 :: []) ∧
      (List.replicate 10 (0 : Word)).length = 10 ∧ (∀ v ∈ List.replicate 10 (0 : Word), v &&& 0xC5 = 0) ∧
      (0 : Word).getLsbD 12 = false :=
  ⟨rfl, rfl, rfl, fun v hv => by rw [List.eq_of_mem_replicate hv]; rfl, rfl⟩

theorem witness_DispatchedCommandCompletes :
    ∀ idx : Idx, idx ≠ 6 → idx ≠ 17 → idx ≠ 18 → idx ≠ 51 → dataBearing settings idx 0 = false := by
  intro idx h6 h17 h18 h51
  have a : (idx == 6) = false := by simpa using h6
  have b : (idx == 17) = false := by simpa using h17
  have c : (idx == 18) = false := by simpa using h18
  have d : (idx == 51) = false := by simpa using h51
  change ((idx == 6 && !Config.isInquiryArg 0) || idx == 51 || idx == 17 || idx == 18) = false
  rw [a, b, c, d]
  rfl

/-- Vector D-12: the command times out with the data path still active. -/
theorem witness_FailedCleanupOverrides :
    let r := dispatchBody settings 0 0 (idleState [0, 4, 0x1000, 0x1000])
    dataBearing settings 0 0 = false ∧ r.status ≠ .success ∧ (r.state.answer .sta).getLsbD 12 = true := by
  have h : (dispatchBody settings 0 0 (idleState [0, 4, 0x1000, 0x1000])).status = .commandTimeout := rfl
  exact ⟨rfl, by rw [h]; decide, rfl⟩

theorem witness_SendCommandFrame :
    (∃ t, exec (Instr.sendcmd 13 0) State.reset = .next t) ∧ dataBearing settings 13 0 = false ∧
      (∃ t, exec (Instr.sendcmd 17 0) State.reset = .next t) ∧ dataBearing settings 17 0 = true :=
  ⟨⟨_, rfl⟩, rfl, ⟨_, rfl⟩, rfl⟩

theorem witness_DataPhaseTimesOut :
    (idleState (List.replicate cfgRef.dataPollIters 0)).ctrlAnswers = List.replicate cfgRef.dataPollIters 0 ++ [] ∧
      (List.replicate cfgRef.dataPollIters (0 : Word)).length = cfgRef.dataPollIters ∧
      ∀ v ∈ List.replicate cfgRef.dataPollIters (0 : Word), v &&& dataMask cfgRef 17 = 0 := by
  refine ⟨(List.append_nil _).symm, List.length_replicate, fun v hv => ?_⟩
  rw [List.eq_of_mem_replicate hv]
  rfl

/-- One snapshot for each clause, with every later error bit and a done bit set beside it. -/
theorem witness_DataErrorsWinOverDone :
    (0x500 : Word) &&& 0x0800003A = 0 ∧ (0x0800053A : Word).getLsbD 1 = true ∧
      ((0x08000538 : Word) &&& 0x2 = 0 ∧ (0x08000538 : Word).getLsbD 3 = true) ∧
      ((0x08000530 : Word) &&& 0xA = 0 ∧ (0x08000530 : Word).getLsbD 4 = true) ∧
      ((0x08000520 : Word) &&& 0x1A = 0 ∧ (0x08000520 : Word).getLsbD 5 = true) ∧
      ((0x08000500 : Word) &&& 0x3A = 0 ∧ (0x08000500 : Word).getLsbD 27 = true) := by decide

theorem witness_response_reader :
    (0 : BitVec 3).toNat ≤ 4 ∧ (4 : BitVec 3).toNat ≤ 4 ∧ (5 : BitVec 3).toNat ≤ 5 ∧ 6 ≤ (6 : BitVec 3).toNat ∧
      6 ≤ (7 : BitVec 3).toNat ∧ (0x20002000 : Word) ≠ 0 ∧ (idleState [1, 2, 3, 4]).ctrlAnswers = 1 :: 2 :: 3 :: 4 :: [] := by
  decide

/-- Lengths where the clauses of the length rule meet: 1, 256 and 512 and more are valid, 0 and 511 are not. -/
theorem witness_read_block_lengths :
    (latchedState 17 0 []).pending = true ∧ (∃ k ≤ 8, (1 : Word).toNat = 2 ^ k) ∧ (∃ k ≤ 8, (256 : Word).toNat = 2 ^ k) ∧
      512 ≤ (512 : Word).toNat ∧ 512 ≤ (0xFFFFFFFF : Word).toNat ∧
      ((0 : Word).toNat < 512 ∧ ∀ k ≤ 8, (0 : Word).toNat ≠ 2 ^ k) ∧
      ((511 : Word).toNat < 512 ∧ ∀ k ≤ 8, (511 : Word).toNat ≠ 2 ^ k) := by decide

theorem witness_ReadBlockNeedsALatchedCommand : (idleState []).pending = false := rfl

theorem witness_DataRegistersAreProgrammed : (idleState [0xFFFFFFFF]).ctrlAnswers = 0xFFFFFFFF :: [] := rfl

theorem witness_ReadBlockIssuesTheLatchedCommand : (latchedState 17 0x800 []).Inv :=
  ⟨rfl, rfl, rfl, fun h => absurd h (by decide), fun _ => rfl, by decide⟩

theorem witness_ReadBlockFrame : ∃ t, exec (.rdblk 0 8 0x20000000) (latchedState 51 0 []) = .next t := ⟨_, rfl⟩

theorem witness_ReferenceReadBlockSuccess :
    let s := latchedState 17 0x800 [0, 0x40, 0, 0x1110, 0x40, 0x100, 0x1151]
    s.pending = true ∧ dataBearing cfgRef s.latchOpcode s.latchArg = true ∧
      validLength (clampLength cfgRef 2048) = true ∧
      s.ctrlAnswers = 0 :: 0x40 :: 0 :: 0x1110 :: 0x40 :: 0x100 :: 0x1151 :: [] ∧
      (0x40 : Word) &&& 0x45 = 0x40 ∧ (0x100 : Word) &&& 0x500 ≠ 0 ∧ (0x100 : Word) &&& 0x0800003A = 0 := by decide

/-- The budget used up, without and with a cleanup (vector B-9). -/
theorem witness_ReadBlockReportsDataErrors_timeout :
    let misses := List.replicate 2000 (0 : Word)
    let s (stop : List Word) := latchedState 17 0 (0 :: 0x40 :: 0 :: 0 :: 0x40 :: (misses ++ [] ++ 0 :: 0 :: (stop ++ [])))
    (s []).pending = true ∧ dataBearing settings 17 0 = true ∧ (512 ≤ (512 : Word).toNat) ∧
      (0x40 : Word) &&& 0x45 = 0x40 ∧ (∀ v ∈ misses, v &&& 0x0800053A = 0) ∧ misses.length = 2000 ∧
      (0 : Word).getLsbD 12 = false ∧ (0x1000 : Word).getLsbD 12 = true :=
  ⟨rfl, rfl, by decide, rfl, fun v hv => by rw [List.eq_of_mem_replicate hv]; rfl, List.length_replicate, rfl, rfl⟩

/-- A snapshot with an error bit after a miss, without and with a cleanup (vectors B-4 and B-8). -/
theorem witness_ReadBlockReportsDataErrors_snapshot :
    let mask : Word := 0xFFFFFFFF &&& 0x0800053A
    (latchedState 18 0x10 [0, 0x40, 0, 0, 0x40, 0x41, 0x1002, 0, 0x1000, 0, 0x40]).ctrlAnswers =
        0 :: 0x40 :: 0 :: 0 :: 0x40 :: ([0x41] ++ (some (0x1002 : Word)).toList ++ 0 :: 0x1000 ::
          (((some ((0 : Word), (0x40 : Word))).toList.flatMap fun p => [p.1, p.2]) ++ [])) ∧
      (latchedState 18 0x10 [0, 0x40, 0, 0, 0x40, 0x08000000, 0, 0]).ctrlAnswers =
        0 :: 0x40 :: 0 :: 0 :: 0x40 :: ([] ++ (some (0x08000000 : Word)).toList ++ 0 :: 0 ::
          (((none : Option (Word × Word)).toList.flatMap fun p => [p.1, p.2]) ++ [])) ∧
      dataBearing settings 18 0x10 = true ∧ (0x41 : Word) &&& mask = 0 ∧
      (0x1002 : Word) &&& mask &&& 0x0800003A ≠ 0 ∧ (0x08000000 : Word) &&& mask &&& 0x0800003A ≠ 0 ∧
      (0x1000 : Word).getLsbD 12 = true ∧ (0 : Word).getLsbD 12 = false := by decide

theorem witness_ValidBusWidthIsProgrammed (width : Word) (h : width ∈ [0, 4, 8]) :
    width = 0 ∨ width = 4 ∨ width = 8 := by simpa using h

theorem witness_InvalidBusWidthIsLogged : (1 : Word) ≠ 0 ∧ (1 : Word) ≠ 4 ∧ (1 : Word) ≠ 8 := by decide

/-- One step that sets the pending flag, one that clears it, one write-block stub. -/
theorem witness_PendingSetByDeferralClearedByReplay :
    (∃ t, exec (.sendcmd17 0) State.reset = .next t ∧ State.reset.pending = false ∧ t.pending = true) ∧
      (∃ t, exec (.rdblk 0 8 0x20000000) (latchedState 17 0 []) = .next t ∧ (latchedState 17 0 []).pending = true ∧
        t.pending = false) ∧
      ∃ t, exec (.wrblk 0 512 0) (latchedState 17 0 []) = .next t :=
  ⟨⟨_, rfl, rfl, rfl⟩, ⟨_, rfl, rfl, rfl⟩, ⟨_, rfl⟩⟩

/-- One operation of each group answers a next state. -/
theorem witness_every_group_runs :
    (∃ t, exec .cardp State.reset = .next t) ∧ (∃ t, exec (.setbus 4 0 0) State.reset = .next t) ∧
      (∃ t, exec (.recvrsp 5 0x20002000) State.reset = .next t) ∧ (∃ t, exec (.recvrsp 5 0) State.reset = .next t) ∧
      (∃ t, exec (.sendcmd13 0) State.reset = .next t) ∧
      ∃ t, exec (.rdblk 0 512 0) (latchedState 18 0 []) = .next t :=
  ⟨⟨_, rfl⟩, ⟨_, rfl⟩, ⟨_, rfl⟩, ⟨_, rfl⟩, ⟨_, rfl⟩, ⟨_, rfl⟩⟩

theorem witness_UsageFaultChangesNothingElse :
    ∃ t, exec (.sendcmd18 0) (latchedState 17 0 []) = .next t ∧
      ∃ c, t.completion = some c ∧ c.status = .usageFault := ⟨_, rfl, _, rfl, rfl⟩
end

section
/-! SUPPORT. The block-size exponent in the data-control word (spec/30_encoding.md R69): what bit stands where, and
from that the size field and the bits around it. -/

namespace Sys2Proof.Machine

/-- The exponent of a power of two that a word can hold is its bit position (00_scope.md R7). -/
theorem blockExponent_one_shiftLeft {k : Nat} (hk : k < 32) : blockExponent (1#32 <<< k) = k := by
  have hn : (1#32 <<< k).toNat = 2 ^ k := BitVec.toNat_twoPow_of_lt hk
  rw [blockExponent, hn, Nat.log2_two_pow]

/-- The size mask covers exactly bits 7 to 4 (10_state.md R26). -/
theorem dctrlSizeMask_getLsbD {i : Nat} (hi : i < 32) :
    settings.dctrlSizeMask.getLsbD i = decide (4 ≤ i ∧ i < 8) := by
  have table : ∀ j < 32, (0x000000F0#32).getLsbD j = decide (4 ≤ j ∧ j < 8) := by decide
  exact table i hi

/-- The data-control word bit by bit: bits 7 to 4 are those of an exponent that fits them, the rest are those of `d`. -/
theorem dctrlWord_getLsbD (d : Word) {e i : Nat} (he : e < 16) (hi : i < 32) :
    (dctrlWord settings d e).getLsbD i = if 4 ≤ i ∧ i < 8 then e.testBit (i - 4) else d.getLsbD i := by
  have hlsb : settings.dctrlSizeLsb = 4 := rfl
  simp only [dctrlWord, BitVec.getLsbD_or, BitVec.getLsbD_and, BitVec.getLsbD_not, BitVec.getLsbD_shiftLeft,
    BitVec.getLsbD_ofNat, dctrlSizeMask_getLsbD hi, hlsb]
  rcases Nat.lt_or_ge i 4 with hlow | hlow
  · simp [hi, hlow, Nat.not_le.2 hlow]
  rcases Nat.lt_or_ge i 8 with hhigh | hhigh
  · have hin : i - 4 < 32 := by omega
    simp [hi, hlow, hhigh, hin, Nat.not_lt.2 hlow]
  · have hzero : e.testBit (i - 4) = false :=
      Nat.testBit_lt_two_pow (he.trans_le (Nat.pow_le_pow_right (n := 2) (i := 4) (by decide) (by omega)))
    simp [hi, Nat.not_lt.2 hhigh, hzero]

/-- The size field of the data-control word is the exponent. -/
theorem dctrlWord_sizeField (d : Word) {e : Nat} (he : e < 16) :
    (dctrlWord settings d e).extractLsb' 4 4 = BitVec.ofNat 4 e := by
  apply BitVec.eq_of_getLsbD_eq
  intro i hi
  rw [BitVec.getLsbD_extractLsb', dctrlWord_getLsbD d he (by omega), if_pos (by omega), Nat.add_sub_cancel_left,
    BitVec.getLsbD_ofNat]

/-- Outside its size field the data-control word is the word just read. -/
theorem dctrlWord_outside_sizeField (d : Word) {e : Nat} (he : e < 16) :
    dctrlWord settings d e &&& ~~~settings.dctrlSizeMask = d &&& ~~~settings.dctrlSizeMask := by
  apply BitVec.eq_of_getLsbD_eq
  intro i hi
  rw [BitVec.getLsbD_and, BitVec.getLsbD_and, BitVec.getLsbD_not, dctrlSizeMask_getLsbD hi, dctrlWord_getLsbD d he hi]
  by_cases hfield : 4 ≤ i ∧ i < 8
  · simp [hfield]
  · rw [if_neg hfield]

end Sys2Proof.Machine

open Sys2Proof Sys2Proof.Machine

/-- Settles O12: the exponent of `2 ^ k` is `k`, which fits the four bits of the size field, and `0xFFFFFF0F` is the
complement of the size mask. -/
theorem blockSizeWord : Obligations.BlockSizeWord := by
  intro k d hk
  rw [blockExponent_one_shiftLeft (by omega)]
  have he : k < 16 := by omega
  refine ⟨?_, dctrlWord_outside_sizeField d he⟩
  rw [dctrlWord_sizeField d he, BitVec.toNat_ofNat, Nat.mod_eq_of_lt he]
end

section
/-! SUPPORT. What steps 1 and 4 to 7 of DISPATCH append to the trace, from every state (spec/40_command_dispatch.md R104,
R108 to R110). -/

namespace Sys2Proof.Machine

/-- A rule marker does not change what CTRL answers next. -/
@[simp] theorem State.answer_atRule (n : Nat) (s : State) (r : Reg) : (s.atRule n).answer r = s.answer r :=
  State.answer_congr rfl rfl rfl r

/-- Step 1 from every state, also when no answer of CTRL is given (`At.engineDisable` says it for a given answer). -/
theorem engineDisable_trace (cfg : Cfg) (s : State) : (engineDisable cfg s).trace =
    s.trace ++ Event.rd .cmd (s.answer .cmd) ::
      (if (s.answer .cmd).getLsbD cfg.cmdEn then [Event.wr .cmd 0] else []) := by
  have hread : ((s.atRule 104).afterRead .cmd).trace = s.trace ++ [Event.rd .cmd (s.answer .cmd)] := by simp
  unfold engineDisable
  dsimp only
  split
  case isTrue => rw [State.regWrite_trace, hread, List.append_assoc, List.singleton_append]
  case isFalse => exact hread

/-- Steps 4 to 7 from every state. -/
theorem issueCommand_trace (cfg : Cfg) (d : CommandDescriptor) (s : State) : (issueCommand cfg d s).trace =
    s.trace ++ Event.wr .icr cfg.staticFlags :: (if d.trans || s.nextIsAcmd then [] else [Event.wr .dctrl 0]) ++
      [Event.wr .arg (augment cfg d.idx d.arg), .wr .cmd (controlWord cfg d.idx d.kind d.trans d.stop)] := by
  have here : At s.ctrlAnswers s.trace s.nextIsAcmd s := ⟨rfl, rfl, rfl⟩
  simpa using (here.issueCommand cfg d).events

end Sys2Proof.Machine

open Sys2Proof Sys2Proof.Machine

/-- Settles O21: the branch of step 1 tests the very word its one read records. The name stands apart from the model's
`engineDisable`. -/
theorem engineDisableStep : Obligations.EngineDisable := engineDisable_trace

/-- Settles O22: the data-control clear depends on the transfer flag and the marker only, and the flag clear before it
changes neither. -/
theorem issueWritesArgumentThenControlWord : Obligations.IssueWritesArgumentThenControlWord := issueCommand_trace
end

section
/-! SUPPORT. Which lengths READ_BLOCK accepts, and the data registers once the latched command is replayed
(spec/41_data_path.md R151, R152, R155 to R157). -/

namespace Sys2Proof.Machine

theorem clampLength_toNat (len : Word) : (clampLength settings len).toNat = min len.toNat 512 := by
  have hmax : settings.blockMax = 512 := rfl
  unfold clampLength
  rw [hmax]
  split
  case isTrue h => exact (min_eq_left (BitVec.le_def.1 h)).symm
  case isFalse h => exact (min_eq_right (by simpa [BitVec.le_def] using (Nat.le_of_not_le h))).symm

/-- A clamped length is a power of two for the lengths 1, 2, 4 up to 256 and for every length from 512 on
(41_data_path.md R152). -/
theorem validLength_clampLength {len : Word} (h : 512 ≤ len.toNat ∨ ∃ k ≤ 8, len.toNat = 2 ^ k) :
    validLength (clampLength settings len) = true := by
  have powers : ∀ k < 10, validLength (1#32 <<< k) = true := by decide
  have hpow : ∃ k < 10, min len.toNat 512 = 2 ^ k := by
    rcases h with hlong | ⟨k, hk, hlen⟩
    · exact ⟨9, by decide, min_eq_right hlong⟩
    · have hle : 2 ^ k ≤ 2 ^ 8 := Nat.pow_le_pow_right (by decide) hk
      exact ⟨k, by omega, by omega⟩
  obtain ⟨k, hk, hn⟩ := hpow
  have hword : clampLength settings len = 1#32 <<< k :=
    BitVec.eq_of_toNat_eq (by rw [clampLength_toNat, hn]; exact (BitVec.toNat_twoPow_of_lt (by omega)).symm)
  rw [hword]
  exact powers k hk

/-- With a command latched and a good length READ_BLOCK configures and replays (41_data_path.md R160). -/
theorem readBlock_of_good {cfg : Cfg} {len : Word} {s : State} (hp : s.pending = true)
    (hv : validLength (clampLength cfg len) = true) (buf : Word) :
    readBlock cfg len buf s = transferBlock cfg (transferOf cfg buf len) s := by
  unfold readBlock
  rw [if_neg (by simp [hp]), if_neg (by simp [hv])]

/-- RDBLK is READ_BLOCK in the machine's configuration. -/
theorem exec_rdblk (address length buffer : Word) (s : State) :
    exec (.rdblk address length buffer) s = .next (readBlock settings length buffer s) := rfl

/-- The replay writes no register that only CONFIGURE writes (10_state.md R20). -/
theorem replayed_get {r : Reg} (hr : mayWrite .command r = false) (t : TransferDescriptor) (s : State) :
    (replayed settings t s).state.ctrl.get r = (configure settings t s).ctrl.get r :=
  (dispatch_ran (Or.inl rfl) settings_stop_not_bearing s.latchOpcode s.latchArg
    (replayEntry settings t s)).get_of_not_mayWrite hr

/-- The words the data registers hold when READ_BLOCK completes (41_data_path.md R155, R157). -/
theorem transferBlock_dataRegisters (t : TransferDescriptor) (s : State) :
    (transferBlock settings t s).ctrl.dtimer = 0xFFFFFFFF ∧ (transferBlock settings t s).ctrl.dlen = t.n ∧
      (transferBlock settings t s).ctrl.idmabase = t.buf ∧ (transferBlock settings t s).ctrl.idmactrl = 1 := by
  obtain ⟨hdtimer, hdlen, hidmabase, hidmactrl⟩ := programTransfer_ctrl settings t
    (setBlockLength settings t.n ((s.atRule 153).cacheWbInv t.buf t.n))
  have hctrl : (transferBlock settings t s).ctrl = (replayed settings t s).state.ctrl := by
    rw [transferBlock_eq]
    rfl
  rw [hctrl]
  exact ⟨(replayed_get (r := .dtimer) rfl t s).trans hdtimer, (replayed_get (r := .dlen) rfl t s).trans hdlen,
    (replayed_get (r := .idmabase) rfl t s).trans hidmabase, (replayed_get (r := .idmactrl) rfl t s).trans hidmactrl⟩

end Sys2Proof.Machine

open Sys2Proof Sys2Proof.Machine

/-- Settles O41: READ_BLOCK past its checks completes with the status of the replay, between the two cache requests it
logs only what CONFIGURE logs, and the replay leaves the data registers as CONFIGURE programmed them. -/
theorem readBlockCompletes : Obligations.ReadBlockCompletes := by
  intro address length buffer s hp hlen n blockLength configured replay
  let d := transferOf settings buffer length
  obtain ⟨hpending, hopcode, harg, hphase, hstep, hiter, -, -, hcompletion, -, -, htrace⟩ := transferBlock_spec settings d s
  obtain ⟨hdtimer, hdlen, hidmabase, hidmactrl⟩ := transferBlock_dataRegisters d s
  obtain ⟨evs, hevs, hfailures⟩ := (transferBlock_failed d s).events
  obtain ⟨hnoUsage, hnoInvalid⟩ := dispatch_status settings_stop_not_bearing s.latchOpcode s.latchArg
    (replayEntry settings d s)
  have hexec : exec (.rdblk address length buffer) s = .next (transferBlock settings d s) := by
    rw [exec_rdblk, readBlock_of_good hp (validLength_clampLength hlen)]
  exact ⟨transferBlock settings d s, evs, hexec, hcompletion, hnoInvalid, hnoUsage, hpending, hopcode, harg, hphase,
    hstep, hiter, hdtimer, by rw [hdlen]; exact clampLength_toNat length, hidmabase, hidmactrl,
    by rw [htrace, hevs]; rfl, hfailures⟩
end

section
/-! SUPPORT. What a DISPATCH, CONFIGURE and a cleanup perform when CTRL's answers are given: the events of each step in
order, with the answers and the marker it leaves (spec/40_command_dispatch.md R104 to R119, spec/41_data_path.md R153 to
R160), in any configuration. -/

namespace Sys2Proof.Machine

/-! ### The events of the steps -/

/-- The events of step 1 after its read of the command register (40_command_dispatch.md R104). -/
def disableEvents (cfg : Cfg) (c : Word) : List Event := if c.getLsbD cfg.cmdEn then [Event.wr .cmd 0] else []

/-- The events of steps 1 to 9 when the command register reads as `c` and the first status read `sta` ends the command
poll with no error (40_command_dispatch.md R104 to R113). -/
def commandEvents (cfg : Cfg) (d : CommandDescriptor) (c sta : Word) : List Event :=
  [Event.rd .cmd c] ++ disableEvents cfg c ++ [Event.wr .icr cfg.staticFlags] ++
    (if d.trans || d.idx == cfg.idxAppCmd then [] else [Event.wr .dctrl 0]) ++
    [Event.wr .arg (augment cfg d.idx d.arg), Event.wr .cmd (controlWord cfg d.idx d.kind d.trans d.stop),
      Event.rd .sta sta]

/-- The events of a poll that misses with the snapshots `misses` (40_command_dispatch.md R121). -/
def missEvents (misses : List Word) : List Event := misses.flatMap fun v => [Event.rd .sta v, Event.dly]

/-- The events of the exit path when the command register reads as `c` (40_command_dispatch.md R117). -/
def exitEvents (cfg : Cfg) (c : Word) : List Event :=
  [Event.wr .icr cfg.staticFlags, Event.rd .cmd c, Event.wr .cmd (c &&& ~~~bit cfg.cmdTrans)]

/-- The events of CONFIGURE after its set-block-length, when the data-control register reads as `d`
(41_data_path.md R155 to R157). -/
def registerEvents (cfg : Cfg) (t : TransferDescriptor) (d : Word) : List Event :=
  [Event.wr .dtimer cfg.dtimerMax, Event.wr .dlen t.n, Event.wr .idmabase t.buf, Event.rd .dctrl d,
    Event.wr .dctrl (dctrlWord cfg d t.e), Event.wr .idmactrl (bit cfg.idmaEn)]

/-- The events of CONFIGURE when its set-block-length finds the marker at `marker`, reads the command register as `c`
and is done at its first status read `sta` (41_data_path.md R153 to R157). -/
def configureEvents (cfg : Cfg) (t : TransferDescriptor) (marker : Bool) (c sta d : Word) : List Event :=
  [Event.cache t.buf t.n] ++ commandEvents cfg (describe cfg cfg.idxSetBlocklen t.n marker) c sta ++
    [Event.wr .icr cfg.staticFlags] ++ registerEvents cfg t d

/-- The events of a data phase that polls `misses` and `last` and fails with `err` (40_command_dispatch.md R115,
R116). -/
def dataErrorEvents (idx : Idx) (misses : List Word) (last : Option Word) (err : Status) : List Event :=
  missEvents misses ++ (last.toList.map fun v => Event.rd .sta v) ++ [Event.log (.commandError err idx)]

/-- The events of step 13 when its status read shows `sta` and the stop-transmission, if there is one, reads the words
`stop` (40_command_dispatch.md R118, R119). -/
def cleanupEvents (cfg : Cfg) (sta : Word) (stop : Option (Word × Word)) : List Event :=
  Event.rd .sta sta :: stop.toList.flatMap fun p =>
    commandEvents cfg (describe cfg cfg.idxStop cfg.stopArg false) p.1 p.2 ++ [Event.wr .icr cfg.staticFlags]

/-! ### What is given -/

/-- Command polls may read at least once, and the two commands that READ_BLOCK issues on its own carry no data and leave
the marker 0 (30_encoding.md R70, 40_command_dispatch.md R106, 70_reset_and_hazards.md R252). -/
structure PlainCommands (cfg : Cfg) : Prop where
  budget : 0 < cfg.cmdPollIters
  blocklen_bearing : ∀ n, dataBearing cfg cfg.idxSetBlocklen n = false
  stop_bearing : dataBearing cfg cfg.idxStop cfg.stopArg = false
  blocklen_ne : cfg.idxSetBlocklen ≠ cfg.idxAppCmd
  stop_ne : cfg.idxStop ≠ cfg.idxAppCmd

/-- `sta` ends the command poll of `idx` and shows no error (40_command_dispatch.md R111, R112). -/
structure CommandDone (cfg : Cfg) (idx : Idx) (sta : Word) : Prop where
  hit : sta &&& cmdMask cfg idx (cfg.respKindOf idx) ≠ 0
  success : classifyCommand cfg (cmdMask cfg idx (cfg.respKindOf idx)) true sta = .success

/-- The snapshots of a data poll: all of `misses` miss the mask, and they use up the budget or the snapshot `last` that
follows them meets it (40_command_dispatch.md R121). -/
structure DataPolled (mask : Word) (budget : Nat) (misses : List Word) (last : Option Word) : Prop where
  miss : ∀ v ∈ misses, v &&& mask = 0
  spent : last = none → misses.length = budget
  hit : ∀ v, last = some v → misses.length < budget ∧ v &&& mask ≠ 0

/-- The data phase of `idx` ends with the snapshots `misses` and `last` and reports the error `err`
(40_command_dispatch.md R116); a poll that spent its budget has no snapshot to classify. -/
structure DataFailed (cfg : Cfg) (idx : Idx) (misses : List Word) (last : Option Word) (err : Status) : Prop where
  polled : DataPolled (dataMask cfg idx) cfg.dataPollIters misses last
  classified : classifyData cfg (dataMask cfg idx) last.isSome (last.getD 0) = err
  ne_success : err ≠ .success

variable {cfg : Cfg} {l : List Word} {evs : List Event} {m : Bool} {s : State}

/-! ### Polls -/

theorem At.poll_of_hit {mask v : Word} {misses : List Word} {n : Nat}
    (h : At (misses ++ v :: l) evs m s) (hn : misses.length < n) (hm : ∀ w ∈ misses, w &&& mask = 0)
    (hv : v &&& mask ≠ 0) : (poll mask n s).hit = true ∧ (poll mask n s).sta = v ∧
      At l (evs ++ missEvents misses ++ [Event.rd .sta v]) m (poll mask n s).state := by
  rw [Machine.poll_of_hit h.answers hn hm hv]
  exact ⟨rfl, rfl, rfl, by rw [← h.events]; rfl, h.marker⟩

theorem At.poll_of_misses {mask : Word} {misses : List Word} (h : At (misses ++ l) evs m s)
    (hm : ∀ w ∈ misses, w &&& mask = 0) :
    (poll mask misses.length s).hit = false ∧
      At l (evs ++ missEvents misses) m (poll mask misses.length s).state := by
  rw [Machine.poll_of_misses h.answers hm]
  exact ⟨rfl, rfl, by rw [← h.events]; rfl, h.marker⟩

/-- A data poll answers its last snapshot, or that it spent its budget. -/
theorem At.poll_of_polled {mask : Word} {n : Nat} {misses : List Word} {last : Option Word}
    (hpoll : DataPolled mask n misses last) (h : At (misses ++ last.toList ++ l) evs m s) :
    classifyData cfg mask (poll mask n s).hit (poll mask n s).sta = classifyData cfg mask last.isSome (last.getD 0) ∧
      At l (evs ++ missEvents misses ++ last.toList.map fun v => Event.rd .sta v) m (poll mask n s).state := by
  cases last with
  | none =>
    obtain ⟨hhit, hat⟩ := At.poll_of_misses (l := l) (by simpa using h) hpoll.miss
    rw [hpoll.spent rfl] at hhit hat
    rw [hhit]
    exact ⟨rfl, by simpa using hat⟩
  | some v =>
    obtain ⟨hlength, hv⟩ := hpoll.hit v rfl
    obtain ⟨hhit, hsta, hat⟩ := At.poll_of_hit (l := l) (by simpa using h) hlength hpoll.miss hv
    rw [hhit, hsta]
    exact ⟨rfl, by simpa using hat⟩

/-! ### The steps of DISPATCH -/

theorem At.log (h : At l evs m s) (e : LogEvent) :
    At l (evs ++ [Event.log e]) m (s.log e) := ⟨h.answers, by simp [h.events], h.marker⟩

theorem At.setPhase (h : At l evs m s) (p : Phase) :
    At l evs m (s.setPhase p) := ⟨h.answers, h.events, h.marker⟩

/-- Steps 8 and 9 when the first status read shows the command done. -/
theorem At.commandPhase {idx : Idx} {arg sta : Word} {b : Bool} (hbudget : 0 < cfg.cmdPollIters)
    (hdone : CommandDone cfg idx sta) (h : At (sta :: l) evs m s) :
    (commandPhase cfg (describe cfg idx arg b) s).status = .success ∧
      At l (evs ++ [Event.rd .sta sta]) m (commandPhase cfg (describe cfg idx arg b) s).state := by
  obtain ⟨hhit, hsta, hat⟩ := At.poll_of_hit (misses := []) (h.atRule 111) hbudget (by simp) hdone.hit
  simp only [Machine.commandPhase, describe, hhit, hsta, hdone.success, true_and]
  simpa [missEvents, logCommand] using hat.atRule 113

/-- Steps 1 to 9 when the first status read shows the command done. -/
theorem At.issued {idx : Idx} {arg c sta : Word} (hbudget : 0 < cfg.cmdPollIters) (hdone : CommandDone cfg idx sta)
    (h : At (c :: sta :: l) evs m s) :
    let r := Machine.commandPhase cfg (describe cfg idx arg m)
      (Machine.issueCommand cfg (describe cfg idx arg m) (updateMarker cfg idx (Machine.engineDisable cfg s)))
    r.status = .success ∧
      At l (evs ++ commandEvents cfg (describe cfg idx arg m) c sta) (idx == cfg.idxAppCmd) r.state := by
  have hdisabled := h.engineDisable cfg
  have hmarked : At (sta :: l) (evs ++ ([Event.rd .cmd c] ++ disableEvents cfg c)) (idx == cfg.idxAppCmd)
      (updateMarker cfg idx (Machine.engineDisable cfg s)) :=
    ⟨hdisabled.answers, hdisabled.events.trans (List.append_assoc ..), rfl⟩
  obtain ⟨hstatus, hat⟩ := At.commandPhase (arg := arg) (b := m) hbudget hdone
    (hmarked.issueCommand cfg (describe cfg idx arg m))
  refine ⟨hstatus, ?_⟩
  simpa [commandEvents, describe] using hat

/-- A DISPATCH without data phase whose command is done at its first status read. -/
theorem At.dispatchBody_of_done {idx : Idx} {arg c sta : Word} (hbudget : 0 < cfg.cmdPollIters)
    (hdone : CommandDone cfg idx sta) (hbearing : dataBearing cfg idx arg = false) (h : At (c :: sta :: l) evs m s) :
    (dispatchBody cfg idx arg s).status = .success ∧
      At l (evs ++ (commandEvents cfg (describe cfg idx arg m) c sta ++ [Event.wr .icr cfg.staticFlags]))
        (idx == cfg.idxAppCmd) (dispatchBody cfg idx arg s).state := by
  obtain ⟨hstatus, hat⟩ := At.issued (arg := arg) hbudget hdone h
  have htrans : (describe cfg idx arg m).trans = false := by simp [describe, hbearing]
  rw [dispatchBody_eq, descriptorAt, h.marker, afterCommandPhase, if_pos hstatus, if_neg (by simp [htrans])]
  refine ⟨rfl, ?_⟩
  simpa [quietExit] using (hat.atRule 114).regWrite .icr cfg.staticFlags

/-- Step 11 when the snapshots of its poll are given and show an error. -/
theorem At.dataPhase {d : CommandDescriptor} {misses : List Word} {last : Option Word} {err : Status}
    (hfailed : DataFailed cfg d.idx misses last err) (h : At (misses ++ last.toList ++ l) evs m s) :
    (dataPhase cfg d s).status = err ∧
      At l (evs ++ dataErrorEvents d.idx misses last err) m (dataPhase cfg d s).state := by
  obtain ⟨hclass, hat⟩ := At.poll_of_polled (cfg := cfg) hfailed.polled (h.atRule 115)
  rw [hfailed.classified] at hclass
  simp only [Machine.dataPhase, hclass, logData, if_neg hfailed.ne_success, true_and]
  simpa [dataErrorEvents] using (hat.atRule 116).log (.commandError err d.idx)

/-- Steps 1 to 12 of a data-bearing command with the marker at 0: the command is done at its first status read, the
data phase fails. -/
theorem At.dispatchBody_of_data_error {idx : Idx} {arg c sta c' : Word} {misses : List Word} {last : Option Word}
    {err : Status} (hbudget : 0 < cfg.cmdPollIters) (hdone : CommandDone cfg idx sta)
    (hbearing : dataBearing cfg idx arg = true) (hfailed : DataFailed cfg idx misses last err)
    (h : At (c :: sta :: (misses ++ last.toList ++ c' :: l)) evs false s) :
    (dispatchBody cfg idx arg s).status = err ∧
      At l (evs ++ (commandEvents cfg (describe cfg idx arg false) c sta ++ dataErrorEvents idx misses last err ++
        exitEvents cfg c')) (idx == cfg.idxAppCmd) (dispatchBody cfg idx arg s).state := by
  obtain ⟨hstatus, hissued⟩ := At.issued (arg := arg) hbudget hdone h
  have htrans : (describe cfg idx arg false).trans = true := by simp [describe, hbearing]
  obtain ⟨hdata, hat⟩ := At.dataPhase (d := describe cfg idx arg false) hfailed hissued
  rw [dispatchBody_eq, descriptorAt, h.marker, afterCommandPhase, if_pos hstatus, if_pos htrans]
  refine ⟨hdata, ?_⟩
  simpa [exitEvents, describe] using hat.exitPath cfg

/-! ### DISPATCH at the top level -/

theorem dispatch_of_success {idx : Idx} {arg : Word}
    (h : (dispatchBody cfg idx arg s).status = .success) (top : Bool) :
    dispatch cfg idx arg top s = dispatchBody cfg idx arg s := by simp [dispatch, h]

theorem dispatch_of_error {idx : Idx} {arg : Word} (h : (dispatchBody cfg idx arg s).status ≠ .success) :
    dispatch cfg idx arg true s = cleanup cfg (dispatchBody cfg idx arg s) := by simp [dispatch, h]

/-- Step 13 with the marker at 0: the stop-transmission is issued exactly when the status read shows the data path
active, and here it succeeds. -/
theorem At.cleanup {r : Result} {sta : Word} {stop : Option (Word × Word)} (hcfg : PlainCommands cfg)
    (hactive : sta.getLsbD cfg.stDpsmact = stop.isSome)
    (hdone : ∀ p, stop = some p → CommandDone cfg cfg.idxStop p.2)
    (h : At (sta :: ((stop.toList.flatMap fun p => [p.1, p.2]) ++ l)) evs false r.state) :
    (cleanup cfg r).status = r.status ∧ At l (evs ++ cleanupEvents cfg sta stop) false (cleanup cfg r).state := by
  obtain ⟨hread, hat⟩ := (h.atRule 118).afterRead .sta
  unfold Machine.cleanup
  dsimp only
  rw [hread, hactive]
  cases stop with
  | none => exact ⟨rfl, by simpa [cleanupEvents] using hat⟩
  | some p =>
    obtain ⟨hstatus, hstopped⟩ := At.dispatchBody_of_done (l := l) hcfg.budget (hdone p rfl) hcfg.stop_bearing
      (by simpa using hat)
    rw [beq_false_of_ne hcfg.stop_ne] at hstopped
    exact ⟨by simp [hstatus], by simpa [cleanupEvents] using hstopped⟩

/-! ### CONFIGURE and the replay -/

/-- CONFIGURE when its set-block-length is done at its first status read. -/
theorem At.configure {t : TransferDescriptor} {c sta d : Word} (hcfg : PlainCommands cfg)
    (hdone : CommandDone cfg cfg.idxSetBlocklen sta) (h : At (c :: sta :: d :: l) evs m s) :
    At l (evs ++ configureEvents cfg t m c sta d) false (configure cfg t s) := by
  have hcache : At (c :: sta :: d :: l) (evs ++ [Event.cache t.buf t.n]) m ((s.atRule 153).cacheWbInv t.buf t.n) :=
    ⟨h.answers, by simp [h.events], h.marker⟩
  obtain ⟨hstatus, hat⟩ := At.dispatchBody_of_done hcfg.budget hdone (hcfg.blocklen_bearing t.n) hcache
  have hblockLength : setBlockLength cfg t.n ((s.atRule 153).cacheWbInv t.buf t.n) =
      (dispatchBody cfg cfg.idxSetBlocklen t.n ((s.atRule 153).cacheWbInv t.buf t.n)).state := by
    simp [setBlockLength, dispatch_of_success hstatus, hstatus]
  rw [beq_false_of_ne hcfg.blocklen_ne] at hat
  rw [Machine.configure, hblockLength]
  simpa [configureEvents, registerEvents] using hat.programTransfer cfg t

/-- A replay whose command is done at its first status read and whose data phase fails, with its cleanup
(41_data_path.md R160, 40_command_dispatch.md R116 to R119). -/
theorem At.replayed_of_data_error {t : TransferDescriptor} {c sta c' sta' : Word} {misses : List Word}
    {last : Option Word} {stop : Option (Word × Word)} {err : Status} (hcfg : PlainCommands cfg)
    (hidx : s.latchOpcode ≠ cfg.idxAppCmd) (hdone : CommandDone cfg s.latchOpcode sta)
    (hbearing : dataBearing cfg s.latchOpcode s.latchArg = true) (hfailed : DataFailed cfg s.latchOpcode misses last err)
    (hactive : sta'.getLsbD cfg.stDpsmact = stop.isSome) (hstop : ∀ p, stop = some p → CommandDone cfg cfg.idxStop p.2)
    (h : At (c :: sta :: (misses ++ last.toList ++ c' :: sta' :: ((stop.toList.flatMap fun p => [p.1, p.2]) ++ l))) evs
      false (Machine.configure cfg t s)) :
    (replayed cfg t s).status = err ∧
      At l (evs ++ (commandEvents cfg (describe cfg s.latchOpcode s.latchArg false) c sta ++
        dataErrorEvents s.latchOpcode misses last err ++ exitEvents cfg c' ++ cleanupEvents cfg sta' stop)) false
        (replayed cfg t s).state := by
  have hentry := ((h.atRule 160).setPhase .armed).setPhase .executing
  obtain ⟨hstatus, hbody⟩ := hentry.dispatchBody_of_data_error (arg := s.latchArg) hcfg.budget hdone hbearing hfailed
  rw [beq_false_of_ne hidx] at hbody
  obtain ⟨hkept, hat⟩ := hbody.cleanup hcfg hactive hstop
  rw [replayed, dispatch_of_error (hstatus ▸ hfailed.ne_success)]
  exact ⟨hkept.trans hstatus, by simpa using hat⟩

/-- The marker and the answers left are those of the replay, and the second cache request is the last event
(41_data_path.md R162, R163). -/
theorem At.transferBlock {t : TransferDescriptor} (h : At l evs m (replayed cfg t s).state) :
    At l (evs ++ [Event.cache t.buf t.n]) m (transferBlock cfg t s) := by
  rw [transferBlock_eq]
  exact ⟨h.answers, by rw [← h.events]; rfl, h.marker⟩

end Sys2Proof.Machine
end

section
/-! SUPPORT. The same in the machine's configuration with any table of data flags: which snapshots end a poll, the
words of a command's events, the error a data snapshot shows (spec/30_encoding.md R66, R68, R74, R75,
spec/40_command_dispatch.md R112, R116). -/

namespace Sys2Proof.Machine

/-- The machine's configuration with another table of data flags (30_encoding.md R75). -/
abbrev withFlags (flags : Idx → Word) : Cfg := { settings with dataFlagsOf := flags }

/-- The machine's own table of data flags gives its own configuration. -/
theorem withFlags_dataFlagsOf : withFlags Config.dataFlagsOf = settings := rfl

theorem plainCommands_withFlags (flags : Idx → Word) : PlainCommands (withFlags flags) where
  budget := show 0 < settings.cmdPollIters by decide
  blocklen_bearing := settings_blocklen_not_bearing
  stop_bearing := settings_stop_not_bearing
  blocklen_ne := settings_blocklen_ne_appCmd
  stop_ne := settings_stop_ne_appCmd

theorem settings_staticFlags : settings.staticFlags = 0x080005FF := rfl

/-- A data-bearing command is none of the indices that DISPATCH and the augmentation treat apart (30_encoding.md
R70). -/
theorem index_ne_of_bearing {idx : Idx} {arg : Word} (h : dataBearing settings idx arg = true) :
    idx ≠ 0 ∧ idx ≠ 1 ∧ idx ≠ 12 ∧ idx ≠ 41 ∧ idx ≠ 55 := by
  rw [dataBearing_settings] at h
  simp only [Bool.or_eq_true, Bool.and_eq_true, beq_iff_eq] at h
  rcases h with ((⟨rfl, -⟩ | rfl) | rfl) | rfl <;> decide

/-- A snapshot that shows command-complete alone of the command bits ends the command poll with no error. -/
theorem commandDone_of_complete {idx : Idx} {sta : Word} (flags : Idx → Word) (hidx : idx ≠ 0)
    (hsta : sta &&& 0x45 = 0x40) : CommandDone (withFlags flags) idx sta := by
  have hcrc : sta.getLsbD 0 = false := by simpa using congrArg (·.getLsbD 0) hsta
  have htimeout : sta.getLsbD 2 = false := by simpa using congrArg (·.getLsbD 2) hsta
  have hcomplete : sta.getLsbD 6 = true := by simpa using congrArg (·.getLsbD 6) hsta
  constructor
  case hit =>
    have hawaited : (cmdMask settings idx (Config.respKindOf idx)).getLsbD 6 = true := by
      rw [cmdMask_getLsbD, if_neg hidx]
      rfl
    have hshown : (sta &&& cmdMask settings idx (Config.respKindOf idx)).getLsbD 6 = true := by
      rw [BitVec.getLsbD_and, hcomplete, hawaited, Bool.and_self]
    intro hzero
    exact absurd (hshown.symm.trans (congrArg (·.getLsbD 6) hzero)) (by simp)
  case success =>
    have hcrcBit : settings.stCcrcfail = 0 := rfl
    have htimeoutBit : settings.stCtimeout = 2 := rfl
    simp only [classifyCommand, hcrcBit, htimeoutBit, BitVec.getLsbD_and, hcrc, htimeout]
    rfl

/-- The descriptor of a data-bearing command that finds the marker at 0 (40_command_dispatch.md R105). -/
theorem describe_of_bearing {idx : Idx} {arg : Word} (h : dataBearing settings idx arg = true) :
    describe settings idx arg false =
      { idx := idx, arg := arg, kind := Config.respKindOf idx, trans := true, stop := false } := by
  obtain ⟨-, -, hstop, -⟩ := index_ne_of_bearing h
  have hstop' : (idx == settings.idxStop) = false := beq_false_of_ne hstop
  unfold describe
  rw [h, hstop']
  rfl

/-- The words of a command's events, for an index that neither augments its argument nor sets the marker
(30_encoding.md R66, R68). -/
theorem commandEvents_withFlags (flags : Idx → Word) {idx : Idx} (hop : idx ≠ 1) (happ : idx ≠ 41) (hmark : idx ≠ 55)
    (arg : Word) (kind : DescKind) (trans stop : Bool) (c sta : Word) :
    commandEvents (withFlags flags) ⟨idx, arg, kind, trans, stop⟩ c sta =
      [Event.rd .cmd c] ++ (if c.getLsbD 12 then [Event.wr .cmd 0] else []) ++ [Event.wr .icr 0x080005FF] ++
        (if trans then [] else [Event.wr .dctrl 0]) ++
        [Event.wr .arg arg, Event.wr .cmd (controlWord settings idx kind trans stop), Event.rd .sta sta] := by
  have hidxOp : idx ≠ settings.idxSendOpCond := hop
  have hidxApp : idx ≠ settings.idxAppOpCond := happ
  have hmarker : (idx == settings.idxAppCmd) = false := beq_false_of_ne hmark
  have haugment : augment (withFlags flags) idx arg = arg := by simp [augment, hidxOp, hidxApp]
  simp only [commandEvents, haugment, hmarker, Bool.or_false]
  rfl

/-- The words of CONFIGURE's events, its set-block-length included (41_data_path.md R154 to R157). -/
theorem configureEvents_withFlags (flags : Idx → Word) (t : TransferDescriptor) (marker : Bool) (c sta d : Word) :
    configureEvents (withFlags flags) t marker c sta d = [Event.cache t.buf t.n, Event.rd .cmd c] ++
      (if c.getLsbD 12 then [Event.wr .cmd 0] else []) ++
      [Event.wr .icr 0x080005FF, Event.wr .dctrl 0, Event.wr .arg t.n,
        Event.wr .cmd (controlWord settings 16 (Config.respKindOf 16) false false), Event.rd .sta sta,
        Event.wr .icr 0x080005FF] ++
      [Event.wr .dtimer 0xFFFFFFFF, Event.wr .dlen t.n, Event.wr .idmabase t.buf, Event.rd .dctrl d,
        Event.wr .dctrl (dctrlWord settings d t.e), Event.wr .idmactrl 1] := by
  have hdescribe : describe (withFlags flags) (withFlags flags).idxSetBlocklen t.n marker =
    ⟨16, t.n, Config.respKindOf 16, false, false⟩ := describe_of_not_bearing (settings_blocklen_not_bearing t.n) marker
  have hregisters : registerEvents (withFlags flags) t d = [Event.wr .dtimer 0xFFFFFFFF, Event.wr .dlen t.n,
    Event.wr .idmabase t.buf, Event.rd .dctrl d, Event.wr .dctrl (dctrlWord settings d t.e),
    Event.wr .idmactrl 1] := rfl
  rw [configureEvents, hdescribe, hregisters, commandEvents_withFlags flags (by decide) (by decide) (by decide)]
  simp [settings_staticFlags]

/-- The words of the exit path's events (40_command_dispatch.md R117). -/
theorem exitEvents_withFlags (flags : Idx → Word) (c : Word) : exitEvents (withFlags flags) c =
    [Event.wr .icr 0x080005FF, Event.rd .cmd c, Event.wr .cmd (c &&& 0xFFFFFFBF)] := by
  have htransBit : ~~~bit settings.cmdTrans = 0xFFFFFFBF := by decide
  rw [← htransBit]
  rfl

/-- The words of a cleanup's events (40_command_dispatch.md R118, R119). -/
theorem cleanupEvents_withFlags (flags : Idx → Word) (sta : Word) (stop : Option (Word × Word)) :
    cleanupEvents (withFlags flags) sta stop = Event.rd .sta sta :: stop.toList.flatMap fun p =>
      [Event.rd .cmd p.1] ++ (if p.1.getLsbD 12 then [Event.wr .cmd 0] else []) ++
      [Event.wr .icr 0x080005FF, Event.wr .dctrl 0, Event.wr .arg 0,
        Event.wr .cmd (controlWord settings 12 (Config.respKindOf 12) false true)] ++
      [Event.rd .sta p.2, Event.wr .icr 0x080005FF] := by
  have hdescribe : describe (withFlags flags) (withFlags flags).idxStop (withFlags flags).stopArg false =
    ⟨12, 0, Config.respKindOf 12, false, true⟩ := describe_of_not_bearing settings_stop_not_bearing false
  rw [cleanupEvents, hdescribe]
  simp only [commandEvents_withFlags flags (idx := 12) (by decide) (by decide) (by decide)]
  simp [settings_staticFlags]

theorem dataMask_withFlags (flags : Idx → Word) (idx : Idx) :
    dataMask (withFlags flags) idx = flags idx &&& 0x0800053A :=
  congrArg (flags idx &&& ·) (show dataAll settings = 0x0800053A by decide)

/-- A word with one of the five data error bits set (10_state.md R24). -/
theorem exists_error_bit {w : Word} (h : w &&& 0x0800003A ≠ 0) :
    ∃ i ∈ [1, 3, 4, 5, 27], w.getLsbD i = true := by
  have bits : ∀ i < 32, (0x0800003A#32).getLsbD i = true → i ∈ [1, 3, 4, 5, 27] := by decide
  by_contra hnone
  refine h (BitVec.eq_of_getLsbD_eq fun i hi => ?_)
  by_contra hboth
  rw [BitVec.getLsbD_and, show (0 : Word).getLsbD i = false from BitVec.getLsbD_zero] at hboth
  obtain ⟨hw, herror⟩ := Bool.and_eq_true_iff.1 (Bool.of_not_eq_false hboth)
  exact hnone ⟨i, bits i hi herror, hw⟩

/-- The error of a snapshot that meets the awaited mask with an error bit: the first of crc failure, timeout, underrun,
overrun, and the DMA error when it is none of them (40_command_dispatch.md R116). -/
theorem classifyData_of_error {v mask : Word} (flags : Idx → Word) (h : v &&& mask &&& 0x0800003A ≠ 0) :
    classifyData (withFlags flags) mask true v =
      if (v &&& mask).getLsbD 1 then .dataCrcFailure else if (v &&& mask).getLsbD 3 then .dataTimeout
      else if (v &&& mask).getLsbD 4 then .fifoUnderrun else if (v &&& mask).getLsbD 5 then .fifoOverrun
      else .dmaTransferError := by
  obtain ⟨i, hi, hbit⟩ := exists_error_bit h
  have hclass : classifyData (withFlags flags) mask true v =
      if (v &&& mask).getLsbD 1 then .dataCrcFailure else if (v &&& mask).getLsbD 3 then .dataTimeout
      else if (v &&& mask).getLsbD 4 then .fifoUnderrun else if (v &&& mask).getLsbD 5 then .fifoOverrun
      else if (v &&& mask).getLsbD 27 then .dmaTransferError else .success := rfl
  rw [hclass]
  generalize v &&& mask = shown at hbit ⊢
  simp only [List.mem_cons, List.not_mem_nil, or_false] at hi
  rcases hi with rfl | rfl | rfl | rfl | rfl <;> simp only [hbit, if_true]

/-- No data error is Success: the status of a poll that spends its budget or shows an error bit. -/
theorem classifyData_ne_success {mask : Word} {last : Option Word} (flags : Idx → Word)
    (h : ∀ v, last = some v → v &&& mask &&& 0x0800003A ≠ 0) :
    classifyData (withFlags flags) mask last.isSome (last.getD 0) ≠ .success := by
  cases last with
  | none => exact Status.noConfusion
  | some v =>
    rw [Option.isSome_some, Option.getD_some, classifyData_of_error flags (h v rfl)]
    split_ifs <;> exact Status.noConfusion

end Sys2Proof.Machine

open Sys2Proof Sys2Proof.Machine

/-- Settles O58: `At.configure` and `At.replayed_of_data_error`, chained by the answers still to come, give the status and
the events; the `withFlags` lemmas write those events in the words of the machine's configuration. -/
theorem readBlockReportsDataErrors : Obligations.ReadBlockReportsDataErrors := by
  intro address length buffer s flags c1 sta1 d c2 sta2 c3 sta3 misses rest last stop hpending hbearing hlen hanswers
    hsta1 hsta2 mask hmisses hspent hhit hactive hstop err n t disable word blockLength registers command data leave
    stopEvents cleanup
  let cfg := withFlags flags
  let td := transferOf cfg buffer length
  have hcfg : PlainCommands cfg := plainCommands_withFlags flags
  obtain ⟨hidx0, hidx1, -, hidx41, hidx55⟩ := index_ne_of_bearing hbearing
  have hclass : classifyData cfg mask last.isSome (last.getD 0) = err := by
    cases last with
    | none => rfl
    | some v => exact classifyData_of_error flags (hhit v rfl).2
  have hne : err ≠ .success := hclass ▸ classifyData_ne_success flags fun v hv => (hhit v hv).2
  have hfailed : DataFailed cfg s.latchOpcode misses last err := by
    have hmask : dataMask cfg s.latchOpcode = mask := dataMask_withFlags flags s.latchOpcode
    have hpolled : DataPolled mask cfg.dataPollIters misses last :=
      ⟨hmisses, hspent, fun v hv => ⟨(hhit v hv).1, fun hzero => (hhit v hv).2 (by simp [hzero])⟩⟩
    rw [← hmask] at hpolled hclass
    exact ⟨hpolled, hclass, hne⟩
  have hblocklenDone : CommandDone cfg cfg.idxSetBlocklen sta1 :=
    commandDone_of_complete flags (show settings.idxSetBlocklen ≠ 0 by decide) hsta1
  have hstopDone (p : Word × Word) (hp : stop = some p) : CommandDone cfg cfg.idxStop p.2 :=
    commandDone_of_complete flags (show settings.idxStop ≠ 0 by decide) (hstop p hp)
  have hstart : At _ s.trace s.nextIsAcmd s := ⟨hanswers, rfl, rfl⟩
  obtain ⟨hstatus, hreplayed⟩ := (hstart.configure (t := td) hcfg hblocklenDone).replayed_of_data_error hcfg hidx55
    (commandDone_of_complete flags hidx0 hsta2) hbearing hfailed hactive hstopDone
  have ht : t = transferBlock cfg td s :=
    readBlock_of_good (cfg := cfg) hpending (validLength_clampLength hlen) buffer
  obtain ⟨hnotPending, hopcode, harg, hphase, -, -, -, -, hcompletion, -⟩ := transferBlock_spec cfg td s
  have hend := hreplayed.transferBlock
  rw [hstatus] at hcompletion
  rw [← ht] at hend hnotPending hopcode harg hphase hcompletion
  refine ⟨hcompletion, hnotPending, hopcode, harg, hphase, hend.marker, hend.answers, ?_, ?_⟩
  · have hdescribe : describe (withFlags flags) s.latchOpcode s.latchArg false =
      ⟨s.latchOpcode, s.latchArg, Config.respKindOf s.latchOpcode, true, false⟩ := describe_of_bearing hbearing
    have hcleanup : cleanupEvents (withFlags flags) sta3 stop = Event.rd .sta sta3 :: cleanup :=
      cleanupEvents_withFlags flags sta3 stop
    rw [hend.events, configureEvents_withFlags, hdescribe, commandEvents_withFlags flags hidx1 hidx41 hidx55,
      exitEvents_withFlags, hcleanup]
    simp only [List.append_assoc, if_true]
    rfl
  · intro hflags
    rw [exec_rdblk, ← withFlags_dataFlagsOf, ← hflags]
end

section
/-! SUPPORT. The whole state RECVRSP leaves when the four words CTRL answers are given (spec/42_response_reader.md R180
to R186). -/

namespace Sys2Proof.Machine

/-- RECVRSP is RECEIVE_RESPONSE in the machine's configuration. -/
theorem exec_recvrsp (code : BitVec 3) (out : Word) (s : State) :
    exec (.recvrsp code out) s = .next (receiveResponse settings code out s) := rfl

/-- The kinds of codes 0 to 4 are read in rising register order (30_encoding.md R73, 42_response_reader.md R182). -/
theorem responseOrder_of_short {code : BitVec 3} (h : code.toNat ≤ 4) :
    ∃ kind, readKind? code = some kind ∧ responseOrder kind = [.resp1, .resp2, .resp3, .resp4] := by
  unfold readKind?
  interval_cases code.toNat
  · exact ⟨.present, rfl, rfl⟩
  · exact ⟨.busy, rfl, rfl⟩
  · exact ⟨.r3, rfl, rfl⟩
  · exact ⟨.r6, rfl, rfl⟩
  · exact ⟨.r7, rfl, rfl⟩

/-- One register copied to one word of the buffer: its read, then its write (42_response_reader.md R186). -/
theorem copyResponse_cons_of_answer {s : State} {v : Word} {rest : List Word} (h : s.ctrlAnswers = v :: rest)
    (cfg : Cfg) (out : Word) (r : Reg) (regs : List Reg) (j : Nat) :
    copyResponse cfg out (r :: regs) j s = copyResponse cfg out regs (j + 1) { s with
      mem := Memory.writeWord cfg s.mem (wordAddress cfg out j) v
      ctrlAnswers := rest
      trace := s.trace ++ [.rd r v, .memWr (wordAddress cfg out j) v] } := by
  rw [copyResponse, answer_of_cons h, afterRead_of_cons h]
  simp [State.memWrite, State.setMem, State.emit]

/-- A kind that reads `r1` to `r4` in this order, with a buffer: the order of the registers is all that the kinds differ
in. -/
theorem exec_recvrsp_of_answers {code : BitVec 3} {kind : ReadKind} {r1 r2 r3 r4 : Reg}
    (hkind : readKind? code = some kind) (horder : responseOrder kind = [r1, r2, r3, r4]) {out : Word}
    (hout : out ≠ 0) {s : State} {v1 v2 v3 v4 : Word} {rest : List Word}
    (h : s.ctrlAnswers = v1 :: v2 :: v3 :: v4 :: rest) :
    exec (.recvrsp code out) s = .next { s with
      seqStep := .none
      seqIter := 0
      mem := Memory.writeWord settings (Memory.writeWord settings (Memory.writeWord settings (Memory.writeWord settings
        s.mem out v1) (out + 4) v2) (out + 8) v3) (out + 12) v4
      ctrlAnswers := rest
      trace := s.trace ++ [.rd r1 v1, .memWr out v1, .rd r2 v2, .memWr (out + 4) v2, .rd r3 v3, .memWr (out + 8) v3,
        .rd r4 v4, .memWr (out + 12) v4]
      completion := some ⟨.success, 0, none, none⟩ } := by
  have hcopy : receiveResponse settings code out s =
      finish .success (copyResponse settings out [r1, r2, r3, r4] 0 (s.atRule 180)) := by
    simp only [receiveResponse, hkind, horder, if_neg hout]
  have hanswers : (s.atRule 180).ctrlAnswers = v1 :: v2 :: v3 :: v4 :: rest := h
  rw [exec_recvrsp, hcopy, copyResponse_cons_of_answer hanswers, copyResponse_cons_of_answer rfl,
    copyResponse_cons_of_answer rfl, copyResponse_cons_of_answer rfl, copyResponse]
  simp [wordAddress_settings, finish, State.deliver, State.seqIdle, State.atRule, Completion.of]

end Sys2Proof.Machine

open Sys2Proof Sys2Proof.Machine

/-- Settles O34: the five kinds share one register order. -/
theorem shortResponsesInRegisterOrder : Obligations.ShortResponsesInRegisterOrder := by
  intro kind out s w1 w2 w3 w4 rest hshort hout hanswers
  obtain ⟨_, hkind, horder⟩ := responseOrder_of_short hshort
  exact exec_recvrsp_of_answers hkind horder hout hanswers

/-- Settles O35: code 5 names the long kind, whose register order is the reverse of the short kinds' order. -/
theorem longResponseInReverseOrder : Obligations.LongResponseInReverseOrder := by
  intro out s w4 w3 w2 w1 rest hout hanswers
  have hkind : readKind? 5 = some .long := rfl
  have horder : responseOrder .long = [.resp4, .resp3, .resp2, .resp1] := rfl
  exact exec_recvrsp_of_answers hkind horder hout hanswers
end

section
/-! SUPPORT. The queries of the host surface that only deliver a completion: CARD_PRESENT and READ_ONLY
(spec/43_host_surface.md R190, R191). -/

namespace Sys2Proof.Machine

/-- CARDP delivers a constant and calls nothing else (43_host_surface.md R190). -/
theorem exec_cardp (s : State) : exec .cardp s = .next (s.deliver (Completion.of .success 1)) := rfl

/-- RDONLY delivers a constant and calls nothing else (43_host_surface.md R191). -/
theorem exec_rdonly (s : State) : exec .rdonly s = .next (s.deliver (Completion.of .success 0)) := rfl

/-- Delivering a status and a result sets the completion port and no other field: the trace and CTRL's answers stand
(30_encoding.md R64). -/
theorem State.deliver_of (status : Status) (r0 : Word) (s : State) :
    s.deliver (Completion.of status r0) = { s with completion := some ⟨status, r0, none, none⟩ } := rfl

end Sys2Proof.Machine

open Sys2Proof Sys2Proof.Machine

/-- Settles O47: CARDP is one delivery, of Success and 1. -/
theorem cardPresentIsTrue : Obligations.CardPresentIsTrue := by
  intro s
  rw [exec_cardp, State.deliver_of]

/-- Settles O48: RDONLY is one delivery, of Success and 0. -/
theorem readOnlyIsFalse : Obligations.ReadOnlyIsFalse := by
  intro s
  rw [exec_rdonly, State.deliver_of]
end

section
/-! SUPPORT. The decoder and the encoder of a command request over its index, decoding of a packed request, and which
headers each row of the opcode table claims (spec/30_encoding.md R61 to R63, R78 to R80). -/

namespace Sys2Proof

/-! ### Encoding and decoding -/

/-- The request word of `CMD<n> arg`, the index in the low bits of `a0` (30_encoding.md R62, R79). -/
theorem encode_sendcmd (idx : Idx) (arg : Word) :
    encode (Instr.sendcmd idx arg) = packRequest 5 (idx.setWidth 32) arg 0 := by
  obtain ⟨⟨n, hn⟩⟩ := idx
  change n < 64 at hn
  interval_cases n <;> rfl

theorem row_sendcmd (idx : Idx) (arg : Word) : (Instr.sendcmd idx arg).row = commandRow idx := by
  obtain ⟨⟨n, hn⟩⟩ := idx
  change n < 64 at hn
  interval_cases n <;> rfl

theorem readBits_sendcmd (idx : Idx) (arg : Word) :
    (Instr.sendcmd idx arg).readBits = packRequest 0xF (BitVec.allOnes 32) (BitVec.allOnes 32) 0 := by
  obtain ⟨⟨n, hn⟩⟩ := idx
  change n < 64 at hn
  interval_cases n <;> rfl

theorem wellFormed_sendcmd (idx : Idx) (arg : Word) : (Instr.sendcmd idx arg).wellFormed = true := by
  obtain ⟨⟨n, hn⟩⟩ := idx
  change n < 64 at hn
  interval_cases n <;> rfl

/-- A command request names its index and its argument. -/
theorem sendcmd_inj {idx idx' : Idx} {arg arg' : Word} (h : Instr.sendcmd idx arg = Instr.sendcmd idx' arg') :
    idx = idx' ∧ arg = arg' := by
  have hword : packRequest 5 (idx.setWidth 32) arg 0 = packRequest 5 (idx'.setWidth 32) arg' 0 := by
    rw [← encode_sendcmd, h, encode_sendcmd]
  have ha0 : idx.setWidth 32 = idx'.setWidth 32 := by simpa using congrArg Request.a0 hword
  have ha1 : arg = arg' := by simpa using congrArg Request.a1 hword
  exact ⟨by simpa using congrArg (BitVec.setWidth 6) ha0, ha1⟩

/-- An index is its 32-bit extension cut to 6 bits, and that extension is in range (30_encoding.md R63). -/
theorem decodeCommand_setWidth (idx : Idx) (arg : Word) :
    decodeCommand Machine.settings (idx.setWidth 32) arg = .op (Instr.sendcmd idx arg) := by
  have hlt : (idx.setWidth 32).toNat < 64 := by
    rw [BitVec.toNat_setWidth_of_le (by decide)]
    exact idx.isLt
  rw [decodeCommand_settings, if_pos hlt, BitVec.setWidth_setWidth_of_le _ (by decide), BitVec.setWidth_eq]

/-- A reader kind is its 32-bit extension cut to 3 bits, and that extension has no bit above them (30_encoding.md R63,
R73). -/
theorem decodeResponse_setWidth {kind : BitVec 3} (h : kind.toNat ≤ 5) (out : Word) :
    decodeResponse (kind.setWidth 32) out = .op (.recvrsp kind out) := by
  have hnat : (kind.setWidth 32).toNat = kind.toNat := BitVec.toNat_setWidth_of_le (by decide)
  have hhigh : (kind.setWidth 32).extractLsb' 3 29 = 0 :=
    (high_bits_eq_zero_iff _ (n := 3) (by decide)).2 (hnat ▸ kind.isLt)
  have hlow : (kind.setWidth 32).extractLsb' 0 3 = kind := by
    rw [← BitVec.setWidth_eq_extractLsb' (by decide), BitVec.setWidth_setWidth_of_le _ (by decide), BitVec.setWidth_eq]
  rw [decodeResponse, if_pos hhigh, hlow, if_pos h]

/-- A response request whose `a0` is at most 5 names its kind there (30_encoding.md R63, R73). -/
theorem decodeResponse_of_le {a0 : Word} (h : a0.toNat ≤ 5) (a1 : Word) :
    decodeResponse a0 a1 = .op (.recvrsp (a0.setWidth 3) a1) := by
  have hkind : (a0.setWidth 3).toNat = a0.toNat := by
    rw [BitVec.toNat_setWidth, Nat.mod_eq_of_lt (by omega)]
  have ha0 : (a0.setWidth 3).setWidth 32 = a0 := BitVec.eq_of_toNat_eq (by
    rw [BitVec.toNat_setWidth_of_le (by decide), hkind])
  have hdecode := decodeResponse_setWidth (kind := a0.setWidth 3) (by rw [hkind]; exact h) a1
  rwa [ha0] at hdecode

/-! ### Rows and headers -/

/-- A row of mask `0x00F` claims exactly the headers whose `op` field is its own (30_encoding.md R80). -/
theorem claims_opRow_iff (x : BitVec 6) (op o : BitVec 4) : (opRow o).claims (x ++ op) = (op == o) := by
  have hmask : (x ++ op) &&& 0x00F#10 = op.setWidth 10 := by
    simpa [OpcodeRow.claims, opRow] using claims_opRow x op
  have hinj : op.setWidth 10 = o.setWidth 10 ↔ op = o :=
    ⟨fun h => by simpa using congrArg (BitVec.setWidth 4) h, fun h => by rw [h]⟩
  rw [OpcodeRow.claims, opRow, hmask, Bool.eq_iff_iff]
  simpa using hinj

/-- The row of a command claims exactly the header of `op` 5 and its index (30_encoding.md R80). -/
theorem claims_commandRow_iff (x idx : Idx) (op : BitVec 4) :
    (commandRow idx).claims (x ++ op) = (op == 5 && x == idx) := by
  have hpattern : (commandRow idx).pattern = idx ++ 5#4 := by
    revert idx
    decide
  have hmask : (x ++ op) &&& 0x3FF#10 = x ++ op := BitVec.and_allOnes
  have hinj : x ++ op = idx ++ 5#4 ↔ op = 5 ∧ x = idx := by
    refine ⟨fun h => ⟨?_, ?_⟩, fun ⟨hop, hx⟩ => by rw [hop, hx]; rfl⟩
    · rw [← BitVec.setWidth_append_eq_right (a := x) (b := op), h, BitVec.setWidth_append_eq_right]
      rfl
    · rw [← BitVec.extractLsb'_append_eq_left (a := x) (b := op), h, BitVec.extractLsb'_append_eq_left]
  rw [OpcodeRow.claims, hpattern, commandRow, hmask, Bool.eq_iff_iff]
  simpa using hinj

/-- Each of the 64 indices once. -/
theorem count_indices (x : Idx) : ((List.range 64).map (BitVec.ofNat 6)).count x = 1 := by
  have hnodup : ((List.range 64).map (BitVec.ofNat 6)).Nodup := by decide
  exact List.count_eq_one_of_mem hnodup (List.mem_map.2 ⟨x.toNat, List.mem_range.2 x.isLt, by simp⟩)

/-- Of the command rows exactly one claims a header of `op` 5, and none any other (30_encoding.md R80). -/
theorem countP_commandRows (x : Idx) (op : BitVec 4) :
    ((List.range 64).map fun n => commandRow (BitVec.ofNat 6 n)).countP (·.claims (x ++ op)) =
      if op = 5 then 1 else 0 := by
  rw [List.countP_map]
  by_cases hop : op = 5
  · have hcount : (List.range 64).countP ((·.claims (x ++ op)) ∘ fun n => commandRow (BitVec.ofNat 6 n)) =
        ((List.range 64).map (BitVec.ofNat 6)).count x := by
      rw [List.count, List.countP_map]
      congr 1
      funext n
      simp [claims_commandRow_iff, hop, eq_comm]
    rw [hcount, count_indices, if_pos hop]
  · rw [if_neg hop, List.countP_eq_zero]
    intro n _
    simpa [claims_commandRow_iff] using fun h => absurd h hop

/-! ### Requests that are not reserved -/

/-- A request with the operation code `op` and the operands `a0`, `a1`, `a2` spells the operation `i`: what
`Obligations.UnreservedRequestsDecode` asks of it. -/
structure Spells (req : Request) (i : Instr) : Prop where
  decoded : decode req = .op i
  wellFormed : i.wellFormed = true
  claimed : i.row.claims req.header = true
  encoded : encode i = req &&& i.readBits

/-- An operation whose row is selected by `op` alone (30_encoding.md R80). -/
theorem spells_of_opRow {op : BitVec 4} {a0 a1 a2 : Word} {i : Instr}
    (hdecode : decode (packRequest op a0 a1 a2) = .op i := by simp [decode]) (hwf : i.wellFormed = true := by rfl)
    (hrow : i.row = opRow op := by rfl)
    (hencode : encode i = packRequest op a0 a1 a2 &&& i.readBits := by
      simp [encode, Instr.readBits, packRequest_and, -BitVec.reduceAllOnes]) :
    Spells (packRequest op a0 a1 a2) i :=
  ⟨hdecode, hwf, by rw [hrow, header_packRequest, claims_opRow], hencode⟩

theorem spells_sendcmd {a0 : Word} (h : a0.toNat < 64) (a1 a2 : Word) :
    Spells (packRequest 5 a0 a1 a2) (Instr.sendcmd (a0.setWidth 6) a1) where
  decoded := by simp [decode, decodeCommand_settings, h]
  wellFormed := wellFormed_sendcmd _ _
  claimed := by
    rw [row_sendcmd, header_packRequest, claims_commandRow_iff, BitVec.setWidth_eq_extractLsb' (by decide)]
    simp
  encoded := by
    have ha0 : (a0.setWidth 6).setWidth 32 = a0 := BitVec.eq_of_toNat_eq (by
      rw [BitVec.toNat_setWidth_of_le (by decide), BitVec.toNat_setWidth, Nat.mod_eq_of_lt h])
    rw [encode_sendcmd, readBits_sendcmd, packRequest_and, ha0]
    simp [-BitVec.reduceAllOnes]

theorem spells_recvrsp {a0 : Word} (h : a0.toNat ≤ 5) (a1 a2 : Word) :
    Spells (packRequest 6 a0 a1 a2) (.recvrsp (a0.setWidth 3) a1) := by
  have hkind : (a0.setWidth 3).toNat = a0.toNat := by rw [BitVec.toNat_setWidth, Nat.mod_eq_of_lt (by omega)]
  have ha0 : (a0.setWidth 3).setWidth 32 = a0 := BitVec.eq_of_toNat_eq (by
    rw [BitVec.toNat_setWidth_of_le (by decide), hkind])
  refine spells_of_opRow ?_ ?_ rfl ?_
  · simp [decode, decodeResponse_of_le h]
  · simpa [Instr.wellFormed, hkind] using h
  · simp [encode, Instr.readBits, packRequest_and, ha0, -BitVec.reduceAllOnes]

end Sys2Proof

open Sys2Proof Sys2Proof.Machine

/-- Settles O8: a command's index and a reader's kind come back from the low bits of `a0`, every other operand stands
whole in its field. -/
theorem decodeOfEncode : Obligations.DecodeOfEncode := by
  intro i hwf
  rcases instr_cases i with ⟨idx, arg, rfl⟩ | rfl | rfl | rfl | ⟨w, rfl⟩ | ⟨a, b, c, rfl⟩ | ⟨kind, out, rfl⟩ |
    ⟨a, b, c, rfl⟩ | ⟨a, b, c, rfl⟩
  case inl =>
    rw [encode_sendcmd]
    simpa [decode] using decodeCommand_setWidth idx arg
  case inr.inr.inr.inr.inr.inr.inl =>
    have hkind : kind.toNat ≤ 5 := by simpa [Instr.wellFormed] using hwf
    simpa [encode, decode] using decodeResponse_setWidth hkind out
  all_goals simp [encode, decode]

/-- Settles O7: a request is its four fields, and each operation code that is not reserved spells its operation from
them. -/
theorem unreservedRequestsDecode : Obligations.UnreservedRequestsDecode := by
  intro req hreserved
  suffices ∃ i, Spells req i by
    obtain ⟨i, h⟩ := this
    exact ⟨i, h.decoded, h.wellFormed, h.claimed, h.encoded⟩
  rw [← packRequest_fields req] at hreserved ⊢
  generalize req.op = op, req.a0 = a0, req.a1 = a1, req.a2 = a2 at hreserved ⊢
  simp only [reservedEncoding, op_packRequest, a0_packRequest, Bool.or_eq_false_iff, Bool.and_eq_false_iff,
    decide_eq_false_iff_not, beq_eq_false_iff_ne, not_le] at hreserved
  obtain ⟨⟨hop, hcommand⟩, hresponse⟩ := hreserved
  obtain ⟨n, hn, rfl⟩ : ∃ n < 9, op = BitVec.ofNat 4 n := ⟨op.toNat, hop, by simp⟩
  interval_cases n
  · exact ⟨.cardp, spells_of_opRow⟩
  · exact ⟨.rdonly, spells_of_opRow⟩
  · exact ⟨.devpath, spells_of_opRow⟩
  · exact ⟨.notify a0, spells_of_opRow⟩
  · exact ⟨.setbus a0 a1 a2, spells_of_opRow⟩
  · exact ⟨_, spells_sendcmd (hcommand.resolve_left fun h => h rfl) a1 a2⟩
  · exact ⟨_, spells_recvrsp (Nat.lt_succ_iff.1 (hresponse.resolve_left fun h => h rfl)) a1 a2⟩
  · exact ⟨.rdblk a0 a1 a2, spells_of_opRow⟩
  · exact ⟨.wrblk a0 a1 a2, spells_of_opRow⟩

/-- Settles O9: a row of mask `0x00F` answers to `op` alone, so the count over the eight of them is a table over `op`;
one of the command rows answers to each header of `op` 5. -/
theorem opcodeRowsClaimEachHeaderOnce : Obligations.OpcodeRowsClaimEachHeaderOnce := by
  intro hdr
  have hsplit : hdr.extractLsb' 4 6 ++ hdr.extractLsb' 0 4 = hdr := BitVec.extractLsb'_append_extractLsb'
  have hrows (ops : List (BitVec 4)) (x : Idx) (op : BitVec 4) :
      (ops.map opRow).countP (·.claims (x ++ op)) = ops.countP (op == ·) := by
    simp [List.countP_map, Function.comp_def, claims_opRow_iff]
  have htable : ∀ op : BitVec 4, [0, 1, 2, 3, 4].countP (op == ·) + (if op = 5 then 1 else 0) +
      [6, 7, 8].countP (op == ·) = if op.toNat ≤ 8 then 1 else 0 := by decide
  generalize hdr.extractLsb' 4 6 = x, hdr.extractLsb' 0 4 = op at hsplit ⊢
  subst hsplit
  rw [opcodeRows, List.countP_append, List.countP_append, countP_commandRows, hrows, hrows]
  exact htable op

/-- Settles O10, by running the decoder. -/
theorem sampleRequestWordsDecode : Obligations.SampleRequestWordsDecode := by
  unfold Obligations.SampleRequestWordsDecode
  decide
end

section
/-! SUPPORT. What RECVRSP copies whatever CTRL answers: one word for each register, each in its own four bytes of the
buffer (spec/42_response_reader.md R180 to R186, spec/20_memory.md R41, R42). -/

namespace Sys2Proof.Machine

/-- Byte `k` of word `j` of the buffer is byte `4*j + k` of the buffer (20_memory.md R42). -/
theorem byteAddress_wordAddress (out : Word) (j k : Nat) :
    byteAddress settings (wordAddress settings out j) k = byteAddress settings out (4 * j + k) := by
  rw [wordAddress_settings, byteAddress_settings, byteAddress_settings, BitVec.ofNat_add, BitVec.add_assoc]

/-- Two words of a buffer of four share no byte. -/
theorem wordAddress_disjoint {out : Word} {i j k l : Nat} (hi : i < 4) (hj : j < 4) (hk : k < 4) (hl : l < 4)
    (hne : i ≠ j) :
    byteAddress settings (wordAddress settings out i) k ≠ byteAddress settings (wordAddress settings out j) l := by
  have hspace : 16 ≤ 2 ^ settings.addrBits.val := by decide
  rw [byteAddress_wordAddress, byteAddress_wordAddress]
  intro h
  have := byteAddress_inj (by omega) (by omega) h
  omega

/-- The events of copying the words `ws` of the registers `regs` to the buffer, from word `j` on
(42_response_reader.md R186). -/
def copyEvents (out : Word) : List (Reg × Word) → Nat → List Event
  | [], _ => []
  | (r, w) :: rest, j => Event.rd r w :: .memWr (wordAddress settings out j) w :: copyEvents out rest (j + 1)

/-- Copying reads one word for each register, writes it to its place in the buffer, and there it stands at the end. -/
theorem copyResponse_words (out : Word) (regs : List Reg) (j : Nat) (s : State)
    (hr : ∀ r ∈ regs, mayRead .response r = true) (hj : j + regs.length ≤ 4) :
    ∃ ws : List Word, ws.length = regs.length ∧
      (copyResponse settings out regs j s).trace = s.trace ++ copyEvents out (regs.zip ws) j ∧
      ∀ i w, ws[i]? = some w → ∀ k < 4, Memory.read (copyResponse settings out regs j s).mem
        (byteAddress settings (wordAddress settings out (j + i)) k) = some (byteOf w k) := by
  induction regs generalizing j s with
  | nil => exact ⟨[], rfl, by simp [copyResponse, copyEvents], by simp⟩
  | cons r rest ih =>
    let s' := (s.afterRead r).memWrite settings (wordAddress settings out j) (s.answer r)
    have hrest : ∀ q ∈ rest, mayRead .response q = true := fun q hq => hr q (List.mem_cons_of_mem _ hq)
    rw [List.length_cons] at hj
    obtain ⟨ws, hlen, htrace, hbytes⟩ := ih (j + 1) s' hrest (by omega)
    obtain ⟨-, -, -, -, -, -, -, -, -, hframe⟩ := copyResponse_spec out rest (j + 1) s' hrest
    have hcopy : copyResponse settings out (r :: rest) j s = copyResponse settings out rest (j + 1) s' := rfl
    refine ⟨s.answer r :: ws, by rw [List.length_cons, hlen, List.length_cons], ?_, fun i w hw k hk => ?_⟩
    · rw [hcopy, htrace]
      simp [s', copyEvents]
    · rw [hcopy]
      cases i with
      | zero =>
        obtain rfl : s.answer r = w := by simpa using hw
        rw [Nat.add_zero, hframe _ fun i hi l hl => wordAddress_disjoint (by omega) (by omega) hk hl (by omega)]
        exact Memory.read_writeWord_self hk
      | succ i =>
        rw [show j + (i + 1) = j + 1 + i by omega]
        exact hbytes i w (by simpa using hw) k hk

/-- The kind codes that name a kind (30_encoding.md R73). -/
theorem readKind?_eq_none_iff (code : BitVec 3) : readKind? code = none ↔ 6 ≤ code.toNat := by
  have h : ∀ c : BitVec 3, readKind? c = none ↔ 6 ≤ c.toNat := by decide
  exact h code

/-- The register order of a code that names a kind: only the long kind, code 5, is read from RESP4 down
(42_response_reader.md R182, R183). -/
theorem responseOrder_of_readKind {code : BitVec 3} {kind : ReadKind} (h : readKind? code = some kind) :
    responseOrder kind = if code = 5 then [.resp4, .resp3, .resp2, .resp1] else [.resp1, .resp2, .resp3, .resp4] := by
  have hall : ∀ c : BitVec 3, ∀ k ∈ readKind? c, responseOrder k =
      if c = 5 then [.resp4, .resp3, .resp2, .resp1] else [.resp1, .resp2, .resp3, .resp4] := by decide
  exact hall code kind h

/-- A kind that is not reserved with a buffer: RECVRSP copies (42_response_reader.md R180). -/
theorem receiveResponse_of_kind {code : BitVec 3} {kind : ReadKind} (hkind : readKind? code = some kind) {out : Word}
    (hout : out ≠ 0) (s : State) : receiveResponse settings code out s =
      finish .success (copyResponse settings out (responseOrder kind) 0 (s.atRule 180)) := by
  simp only [receiveResponse, hkind, if_neg hout]

end Sys2Proof.Machine

open Sys2Proof Sys2Proof.Machine

/-- Settles O36: the null test comes before the copy. -/
theorem nullBufferFailsSilently : Obligations.NullBufferFailsSilently := by
  intro kind s hkind
  rw [exec_recvrsp]
  rcases receiveResponse_cases kind 0 s with ⟨hnone, -⟩ | ⟨-, -, h⟩ | ⟨_, -, hout, -⟩
  · have := (readKind?_eq_none_iff kind).1 hnone
    omega
  · rw [h, State.deliver_of]
  · exact absurd rfl hout

/-- Settles O37: the code of a reserved kind names none, and that is tested first. -/
theorem reservedReaderKindIsRefused : Obligations.ReservedReaderKindIsRefused := by
  intro kind out s hkind
  have hnone := (readKind?_eq_none_iff kind).2 hkind
  rw [exec_recvrsp, receiveResponse, hnone]
  rfl

/-- Settles O38: the four words `copyResponse_words` gives, in the order of the kind; the rest of the state by
`copyResponse_spec`. -/
theorem responseReaderEffectAndFrame : Obligations.ResponseReaderEffectAndFrame := by
  intro code out s hcode hout pick
  obtain ⟨kind, hkind⟩ : ∃ kind, readKind? code = some kind :=
    Option.ne_none_iff_exists'.1 fun h => by have := (readKind?_eq_none_iff code).1 h; omega
  have hreads := responseOrder_reads kind
  have horder : responseOrder kind = [pick .resp1 .resp4, pick .resp2 .resp3, pick .resp3 .resp2,
      pick .resp4 .resp1] := by
    rw [responseOrder_of_readKind hkind]
    dsimp only [pick]
    split_ifs <;> rfl
  rw [horder] at hreads
  obtain ⟨ws, hlen, htrace, hbytes⟩ := copyResponse_words out _ 0 (s.atRule 180) hreads (by simp)
  obtain ⟨-, hctrl, hopcode, harg, hpending, hmarker, hphase, hrequests, -, hframe⟩ :=
    copyResponse_spec out _ 0 (s.atRule 180) hreads
  obtain ⟨w1, w2, w3, w4, rfl⟩ := List.length_eq_four.1 hlen
  have hexec := exec_recvrsp code out s
  rw [receiveResponse_of_kind hkind hout, horder] at hexec
  refine ⟨_, w1, w2, w3, w4, hexec, rfl, ?_, ?_, ?_, hopcode, harg, hpending, hmarker, hphase, hctrl, hrequests⟩
  · rw [finish_trace, htrace]
    simp [copyEvents, wordAddress_settings]
  · simpa using hbytes
  · simpa using hframe
end

section
/-! SUPPORT. What an operation can do, said once: `Executed`, with one constructor for each of the ways an operation
completes, and what each of them does to the invariant, the trace, the pending flag and the completion port
(spec/10_state.md, spec/60_exceptions.md R210 to R216). -/

namespace Sys2Proof.Machine

/-! ### The ways an operation completes -/

/-- From `s` the operation `i` completes in `t`. -/
inductive Executed (s : State) : Instr → State → Prop where
  /-- CARDP, RDONLY, DEVPATH, NOTIFY, WRBLK (43_host_surface.md R190 to R194, 41_data_path.md R170). -/
  | quiet (i : Instr) (n : Nat) (c : Completion) : accessGroup i = .quiet → c.status = .success →
      Executed s i ((s.addDraws n).deliver c)
  /-- A second data-bearing command (40_command_dispatch.md R102). -/
  | doubleLatch (idx : Idx) (arg : Word) : dataBearing settings idx arg = true → s.pending = true →
      Executed s (Instr.sendcmd idx arg) (usageFault .doubleLatch s)
  /-- A data-bearing command with nothing latched (40_command_dispatch.md R101). -/
  | deferred (idx : Idx) (arg : Word) : dataBearing settings idx arg = true → s.pending = false →
      Executed s (Instr.sendcmd idx arg) ((s.latch idx arg).deliver (Completion.of .success 0))
  /-- Any other command (40_command_dispatch.md R103). -/
  | dispatched (idx : Idx) (arg : Word) : dataBearing settings idx arg = false → Executed s (Instr.sendcmd idx arg)
      (finish (dispatch settings idx arg true s).status (dispatch settings idx arg true s).state)
  /-- A bus width of 0, 4 or 8 (43_host_surface.md R195). -/
  | busWidth (width clock timing wbits : Word) : Executed s (.setbus width clock timing) (finish .success
      (((s.atRule 195).afterRead .clkcr).regWrite .clkcr (clkcrWord settings (s.answer .clkcr) wbits)))
  /-- Any other bus width (43_host_surface.md R196). -/
  | badBusWidth (width clock timing : Word) : Executed s (.setbus width clock timing)
      (finish (badWidthStatus s.draws) (((s.atRule 196).addDraws 1).log (.badBusWidth width)))
  /-- A reserved reader kind (30_encoding.md R63). -/
  | reservedKind (code : BitVec 3) (out : Word) : readKind? code = none →
      Executed s (.recvrsp code out) (usageFault .reservedEncoding s)
  /-- The null buffer (42_response_reader.md R181). -/
  | nullBuffer (code : BitVec 3) : Executed s (.recvrsp code 0) (s.deliver (Completion.of .invalidArgument 0))
  /-- The response copied to a buffer (42_response_reader.md R180). -/
  | copied (code : BitVec 3) (out : Word) (kind : ReadKind) : readKind? code = some kind → out ≠ 0 →
      Executed s (.recvrsp code out) (finish .success (copyResponse settings out (responseOrder kind) 0 (s.atRule 180)))
  /-- RDBLK with nothing latched (41_data_path.md R161). -/
  | noLatched (address length buffer : Word) : s.pending = false →
      Executed s (.rdblk address length buffer) (usageFault .noLatchedCommand s)
  /-- RDBLK with a bad length (41_data_path.md R152). -/
  | badLength (address length buffer : Word) : s.pending = true → validLength (clampLength settings length) = false →
      Executed s (.rdblk address length buffer) (usageFault .badLength s)
  /-- RDBLK with a command latched and a good length (41_data_path.md R160). -/
  | replayed (address length buffer : Word) : s.pending = true → validLength (clampLength settings length) = true →
      Executed s (.rdblk address length buffer) (transferBlock settings (transferOf settings buffer length) s)

/-- Every operation completes in one of these ways. -/
theorem executed_of_exec {i : Instr} {s t : State} (h : exec i s = .next t) : Executed s i t := by
  rcases instr_cases i with ⟨idx, arg, rfl⟩ | rfl | rfl | rfl | ⟨w, rfl⟩ | ⟨width, clock, timing, rfl⟩ |
    ⟨code, out, rfl⟩ | ⟨address, length, buffer, rfl⟩ | ⟨address, length, buffer, rfl⟩
  case inl =>
    rw [exec_sendcmd] at h
    cases h
    rcases sendCommand_cases settings idx arg s with ⟨hb, hp, h⟩ | ⟨hb, hp, h⟩ | ⟨hb, h⟩ <;> rw [h]
    · exact .doubleLatch idx arg hb hp
    · exact .deferred idx arg hb hp
    · exact .dispatched idx arg hb
  case inr.inr.inr.inr.inr.inl =>
    cases h
    rcases setBus_cases settings width s with ⟨wbits, -, h⟩ | ⟨-, h⟩ <;> rw [h]
    · exact .busWidth width clock timing wbits
    · exact .badBusWidth width clock timing
  case inr.inr.inr.inr.inr.inr.inl =>
    rw [exec_recvrsp] at h
    cases h
    rcases receiveResponse_cases code out s with ⟨hk, h⟩ | ⟨-, rfl, h⟩ | ⟨kind, hk, ho, h⟩ <;> rw [h]
    · exact .reservedKind code out hk
    · exact .nullBuffer code
    · exact .copied code out kind hk ho
  case inr.inr.inr.inr.inr.inr.inr.inl =>
    rw [exec_rdblk] at h
    cases h
    rcases readBlock_cases settings length buffer s with ⟨hp, h⟩ | ⟨hp, hv, h⟩ | ⟨hp, hv, h⟩ <;> rw [h]
    · exact .noLatched address length buffer hp
    · exact .badLength address length buffer hp hv
    · exact .replayed address length buffer hp hv
  case inr.inr.inr.inl =>
    cases h
    exact .quiet _ 1 _ rfl rfl
  all_goals
    cases h
    exact .quiet _ 0 _ rfl rfl

/-! ### The invariant -/

theorem State.Inv.deliver {s : State} (h : s.Inv) (c : Completion) : (s.deliver c).Inv :=
  ⟨h.seqStep, h.seqIter, h.phase, h.cleared, h.latched, h.mem⟩

/-- An operation that leaves latch, phase and memory alone and then completes. -/
theorem State.Inv.finish_of_kept {s t : State} (h : s.Inv) (k : Kept s t) (st : Status) : (finish st t).Inv where
  seqStep := rfl
  seqIter := rfl
  phase := by rw [finish_phase, finish_pending, k.phase, k.pending, h.phase]
  cleared := by
    rw [finish_pending, finish_latchOpcode, finish_latchArg, k.pending, k.latchOpcode, k.latchArg]
    exact h.cleared
  latched := by
    rw [finish_pending, finish_latchOpcode, finish_latchArg, k.pending, k.latchOpcode, k.latchArg]
    exact h.latched
  mem := by rw [finish_mem, k.mem]; exact h.mem

/-- Every operation keeps the boundary invariant (10_state.md section 2). -/
theorem Executed.inv {s t : State} {i : Instr} (h : Executed s i t) (hs : s.Inv) : t.Inv := by
  cases h with
  | quiet n c => exact ⟨hs.seqStep, hs.seqIter, hs.phase, hs.cleared, hs.latched, hs.mem⟩
  | doubleLatch | reservedKind | nullBuffer | noLatched | badLength => exact hs.deliver _
  | deferred idx arg hb =>
    exact ⟨hs.seqStep, hs.seqIter, rfl, fun h => Bool.noConfusion h, fun _ => hb, hs.mem⟩
  | dispatched idx arg => exact hs.finish_of_kept (dispatch_kept settings idx arg true s) _
  | busWidth =>
    exact hs.finish_of_kept ((kept_atRule 195 s).trans ((kept_afterRead ..).trans (kept_regWrite ..))).toKept _
  | badBusWidth width =>
    have hkept : Kept s (((s.atRule 196).addDraws 1).log (.badBusWidth width)) := ⟨rfl, rfl, rfl, rfl, rfl, rfl, rfl⟩
    exact hs.finish_of_kept hkept _
  | copied code out kind =>
    obtain ⟨-, -, hopcode, harg, hpending, -, hphase, -, hmem, -⟩ :=
      copyResponse_spec out (responseOrder kind) 0 (s.atRule 180) (responseOrder_reads kind)
    refine ⟨rfl, rfl, ?_, ?_, ?_, hmem hs.mem⟩
    · exact hphase.trans (hpending.symm ▸ hs.phase)
    · intro hp
      exact ⟨hopcode.trans (hs.cleared (hpending.symm.trans hp)).1, harg.trans (hs.cleared (hpending.symm.trans hp)).2⟩
    · intro hp
      simpa [hopcode, harg] using hs.latched (hpending.symm.trans hp)
  | replayed address length buffer =>
    obtain ⟨hpending, hopcode, harg, hphase, hstep, hiter, -, hmem, -⟩ :=
      transferBlock_spec settings (transferOf settings buffer length) s
    refine ⟨hstep, hiter, by rw [hphase, hpending]; rfl, fun _ => ⟨hopcode, harg⟩, fun h => ?_, ?_⟩
    · rw [hpending] at h
      exact Bool.noConfusion h
    · rw [hmem]
      exact Memory.fillFree_wf _ _ _ hs.mem

/-! ### The step -/

/-- The three reserved forms decode to no operation (30_encoding.md R63). -/
theorem decode_reserved {req : Request} (h : 9 ≤ req.op.toNat ∨ (req.op = 5 ∧ 64 ≤ req.a0.toNat) ∨
    (req.op = 6 ∧ 6 ≤ req.a0.toNat)) : ∃ why, decode req = .reserved why := by
  rcases h with hop | ⟨hop, ha0⟩ | ⟨hop, ha0⟩
  · unfold decode
    split
    case h_10 => exact ⟨_, rfl⟩
    all_goals omega
  · refine ⟨.reservedCommandBits, ?_⟩
    have hcommand : decode req = decodeCommand settings req.a0 req.a1 := by simp [decode, hop]
    rw [hcommand, decodeCommand_settings, if_neg (by omega)]
  · have hresponse : decode req = decodeResponse req.a0 req.a1 := by simp [decode, hop]
    rw [hresponse, decodeResponse]
    split
    case isTrue hhigh =>
      have hlt : req.a0.toNat < 8 := (high_bits_eq_zero_iff _ (n := 3) (by decide)).1 hhigh
      have hkind : (req.a0.extractLsb' 0 3).toNat = req.a0.toNat := by
        rw [BitVec.extractLsb'_toNat, Nat.shiftRight_zero, Nat.mod_eq_of_lt hlt]
      exact ⟨.reservedKind, if_neg (by omega)⟩
    case isFalse => exact ⟨.reservedResponseBits, rfl⟩

/-- What a step that answers a next state did: nothing with no request waiting, else the first request, which it
refused or ran (30_encoding.md R63, 70_reset_and_hazards.md R246). -/
theorem step_next_cases {s t : State} (h : step s = .next t) : (s.hostRequests = [] ∧ t = s) ∨
    ∃ req rest, s.hostRequests = req :: rest ∧
      (t = usageFault .reservedEncoding (s.setRequests rest) ∨
        ∃ i, decode req = .op i ∧ exec i (s.setRequests rest) = .next t) := by
  unfold step nextRequest at h
  cases hreq : s.hostRequests with
  | nil =>
    simp only [hreq] at h
    split at h <;> cases h
    exact Or.inl ⟨rfl, rfl⟩
  | cons req rest =>
    refine Or.inr ⟨req, rest, rfl, ?_⟩
    simp only [hreq] at h
    split at h
    · unfold runRequest at h
      cases hdec : decode req with
      | op i => exact Or.inr ⟨i, rfl, by simpa only [hdec] using h⟩
      | reserved why =>
        simp only [hdec] at h
        cases h
        exact Or.inl rfl
    · cases h

/-- Between operations a step runs the request that waits (70_reset_and_hazards.md R246). -/
theorem step_of_request {s : State} {req : Request} {rest : List Request} (hreq : s.hostRequests = req :: rest)
    (hidle : s.seqStep = .none) : step s = runRequest req (s.setRequests rest) := by
  simp only [step, nextRequest, hreq, hidle, if_true]

/-! ### The events -/

/-- The events of an operation are those the register table gives its group, with at most the delays of its polls
(10_state.md R20, 70_reset_and_hazards.md R253). -/
structure EventsOf (i : Instr) (s t : State) : Prop where
  events : ∃ evs, t.trace = s.trace ++ evs ∧ (∀ e ∈ evs, mayPerform (accessGroup i) e = true) ∧
    delays evs ≤ delayBound (accessGroup i)

theorem eventsOf_silent {i : Instr} {s t : State} (h : t.trace = s.trace) : EventsOf i s t :=
  ⟨[], by simp [h], by simp, Nat.zero_le _⟩

theorem Ran.eventsOf {g : AccessGroup} {n : Nat} {cs : List (Word × Word)} {i : Instr} {s t u : State}
    (h : Ran g n cs s t) (hu : u.trace = t.trace) (hg : accessGroup i = g) (hn : n ≤ delayBound g) :
    EventsOf i s u := by
  obtain ⟨evs, htrace, hperform, hdelays, -⟩ := h.events
  rw [← hg] at hperform hn
  exact ⟨evs, hu.trans htrace, hperform, hdelays.trans hn⟩

/-- The commands a READ_BLOCK issues: set-block-length and the latched command, each with the stop-transmission of its
cleanup, if there is one (41_data_path.md R154, R160). -/
def blockCommands (td : TransferDescriptor) (s : State) : List (Word × Word) :=
  let entry := (s.atRule 153).cacheWbInv td.buf td.n
  (commandAt settings settings.idxSetBlocklen td.n entry ::
    stopsAfter settings (dispatchBody settings settings.idxSetBlocklen td.n entry)) ++
  (commandAt settings s.latchOpcode s.latchArg (replayEntry settings td s) ::
    stopsAfter settings (dispatchBody settings s.latchOpcode s.latchArg (replayEntry settings td s)))

/-- A whole READ_BLOCK with its two cache requests. -/
theorem transferBlock_ran_whole (td : TransferDescriptor) (s : State) :
    Ran .block 2040 (blockCommands td s) s (transferBlock settings td s) := by
  obtain ⟨-, -, -, -, -, -, -, -, -, -, hctrl, htrace⟩ := transferBlock_spec settings td s
  have hfirst : Ran .block 0 [] s ((s.atRule 153).cacheWbInv td.buf td.n) :=
    Ran.of_atRule (j := 153) (ran_emit _ rfl (by simp) (by simp))
  have hlast := ran_emit (g := .block) (e := .cache td.buf td.n) (replayed settings td s).state rfl (by simp) (by simp)
  have hran := ((hfirst.trans (transferBlock_ran td s)).trans hlast).mono (m := 2040) (by omega)
  rw [List.nil_append, List.append_nil] at hran
  exact hran.after htrace hctrl

theorem Executed.eventsOf {s t : State} {i : Instr} (h : Executed s i t) : EventsOf i s t := by
  cases h with
  | quiet | doubleLatch | deferred | reservedKind | nullBuffer | noLatched | badLength => exact eventsOf_silent rfl
  | dispatched idx arg hb => exact (sendCommand_ran hb s).eventsOf rfl (accessGroup_sendcmd idx arg) le_rfl
  | busWidth width clock timing wbits =>
    have hran := Ran.of_atRule (j := 195) ((ran_afterRead (g := .busParameters) (r := .clkcr) (s.atRule 195) rfl).trans
      (ran_regWrite (r := .clkcr) (clkcrWord settings (s.answer .clkcr) wbits) _ rfl (by decide)))
    exact hran.eventsOf rfl rfl le_rfl
  | badBusWidth width =>
    have hran := ran_emit (g := .busParameters) (e := .log (.badBusWidth width)) ((s.atRule 196).addDraws 1) rfl
      (by simp) (by simp)
    exact (hran.before (s := s) rfl rfl).eventsOf rfl rfl le_rfl
  | copied code out kind =>
    obtain ⟨⟨evs, htrace, hperform, hdelays⟩, -⟩ :=
      copyResponse_spec out (responseOrder kind) 0 (s.atRule 180) (responseOrder_reads kind)
    exact ⟨evs, htrace, hperform, hdelays.le⟩
  | replayed address length buffer =>
    exact (transferBlock_ran_whole (transferOf settings buffer length) s).eventsOf rfl rfl le_rfl

/-! ### Memory writes -/

/-- Is an event a memory write (20_memory.md R54)? -/
def isMemWr (e : Event) : Bool := match e with | .memWr _ _ => true | _ => false

/-- Copying writes one word for each register it reads. -/
theorem countP_isMemWr_copyEvents (out : Word) (l : List (Reg × Word)) (j : Nat) :
    (copyEvents out l j).countP isMemWr = l.length := by
  induction l generalizing j with
  | nil => rfl
  | cons p rest ih =>
    obtain ⟨r, w⟩ := p
    rw [copyEvents, List.countP_cons_of_neg (by simp [isMemWr]), List.countP_cons_of_pos rfl, ih, List.length_cons]

/-- How many words RECVRSP writes (20_memory.md R54). -/
theorem Executed.memWrites_recvrsp {s t : State} {code : BitVec 3} {out : Word} (h : Executed s (.recvrsp code out) t) :
    ∃ evs, t.trace = s.trace ++ evs ∧ evs.countP isMemWr = if code.toNat ≤ 5 ∧ out ≠ 0 then 4 else 0 := by
  generalize hi : Instr.recvrsp code out = i at h
  cases h with
  | reservedKind _ _ hnone =>
    cases hi
    have := (readKind?_eq_none_iff code).1 hnone
    exact ⟨[], by simp, by rw [if_neg (by omega)]; rfl⟩
  | nullBuffer =>
    cases hi
    exact ⟨[], by simp [State.deliver], by simp⟩
  | copied _ _ kind hkind hout =>
    cases hi
    obtain ⟨ws, hlen, htrace, -⟩ := copyResponse_words out (responseOrder kind) 0 (s.atRule 180)
      (responseOrder_reads kind) (by simp)
    have hcode : code.toNat ≤ 5 := by
      by_contra hlt
      rw [(readKind?_eq_none_iff code).2 (by omega)] at hkind
      cases hkind
    refine ⟨_, htrace, ?_⟩
    rw [countP_isMemWr_copyEvents, if_pos ⟨hcode, hout⟩, List.length_zip, hlen]
    simp
  | quiet _ _ _ hg =>
    rw [← hi] at hg
    exact AccessGroup.noConfusion hg
  | doubleLatch idx arg | deferred idx arg | dispatched idx arg =>
    have hgroup := accessGroup_sendcmd idx arg
    rw [← hi] at hgroup
    exact AccessGroup.noConfusion hgroup
  | busWidth | badBusWidth | noLatched | badLength | replayed => exact Instr.noConfusion hi

/-! ### The pending flag and the completion -/

/-- Does an operation defer a command when nothing is pending? -/
def Defers (i : Instr) : Prop := ∃ idx arg, i = Instr.sendcmd idx arg ∧ dataBearing settings idx arg = true

/-- Does an operation replay the pending command? -/
def Replays (i : Instr) : Prop :=
  ∃ address length buffer, i = .rdblk address length buffer ∧ validLength (clampLength settings length) = true

theorem defers_sendcmd_iff (idx : Idx) (arg : Word) :
    Defers (Instr.sendcmd idx arg) ↔ dataBearing settings idx arg = true := by
  refine ⟨fun ⟨idx', arg', h, hb⟩ => ?_, fun hb => ⟨idx, arg, rfl, hb⟩⟩
  obtain ⟨rfl, rfl⟩ := sendcmd_inj h
  exact hb

theorem not_defers_of_group {i : Instr} (h : accessGroup i ≠ .command) : ¬ Defers i := by
  rintro ⟨idx, arg, rfl, -⟩
  exact h (accessGroup_sendcmd idx arg)

theorem not_replays_of_group {i : Instr} (h : accessGroup i ≠ .block) : ¬ Replays i := by
  rintro ⟨address, length, buffer, rfl, -⟩
  exact h rfl

theorem replays_rdblk_iff (address length buffer : Word) :
    Replays (.rdblk address length buffer) ↔ validLength (clampLength settings length) = true := by
  refine ⟨?_, fun h => ⟨address, length, buffer, rfl, h⟩⟩
  rintro ⟨_, _, _, h, hv⟩
  cases h
  exact hv

/-- What an operation does to the pending flag (10_state.md R13). -/
structure PendingFlag (i : Instr) (s t : State) : Prop where
  set : s.pending = false → (t.pending = true ↔ Defers i)
  cleared : s.pending = true → (t.pending = false ↔ Replays i)

theorem pendingFlag_of_kept {i : Instr} {s t : State} (h : t.pending = s.pending)
    (hd : s.pending = false → ¬ Defers i) (hr : s.pending = true → ¬ Replays i) : PendingFlag i s t where
  set hp := by simp [h, hp, hd hp]
  cleared hp := by simp [h, hp, hr hp]

theorem Executed.pendingFlag {s t : State} {i : Instr} (h : Executed s i t) : PendingFlag i s t := by
  cases h with
  | quiet _ _ _ hg =>
    exact pendingFlag_of_kept rfl (fun _ => not_defers_of_group (by simp [hg])) fun _ =>
      not_replays_of_group (by simp [hg])
  | doubleLatch idx arg _ hp =>
    exact pendingFlag_of_kept rfl (fun hn => by simp [hp] at hn) fun _ =>
      not_replays_of_group (by simp [accessGroup_sendcmd])
  | deferred idx arg hb hp =>
    exact ⟨fun _ => iff_of_true rfl ((defers_sendcmd_iff idx arg).2 hb), fun hn => by simp [hp] at hn⟩
  | dispatched idx arg hb =>
    exact pendingFlag_of_kept (dispatch_kept settings idx arg true s).pending
      (fun _ => by rw [defers_sendcmd_iff, hb]; exact Bool.noConfusion) fun _ =>
      not_replays_of_group (by simp [accessGroup_sendcmd])
  | busWidth | badBusWidth | reservedKind | nullBuffer =>
    exact pendingFlag_of_kept (by simp [State.deliver]) (fun _ => not_defers_of_group nofun) fun _ =>
      not_replays_of_group nofun
  | copied code out kind =>
    obtain ⟨-, -, -, -, hpending, -⟩ :=
      copyResponse_spec out (responseOrder kind) 0 (s.atRule 180) (responseOrder_reads kind)
    exact pendingFlag_of_kept hpending (fun _ => not_defers_of_group nofun) fun _ =>
      not_replays_of_group nofun
  | noLatched address length buffer hp =>
    exact pendingFlag_of_kept rfl (fun _ => not_defers_of_group nofun) fun hn => by simp [hp] at hn
  | badLength address length buffer hp hv =>
    exact pendingFlag_of_kept rfl (fun hn => by simp [hp] at hn) fun _ => by
      rw [replays_rdblk_iff, hv]
      exact Bool.noConfusion
  | replayed address length buffer hp hv =>
    obtain ⟨hpending, -⟩ := transferBlock_spec settings (transferOf settings buffer length) s
    exact ⟨fun hn => by simp [hp] at hn, fun _ => iff_of_true hpending ((replays_rdblk_iff ..).2 hv)⟩

/-- A UsageFault is always the refusal that changes nothing (60_exceptions.md R214). -/
theorem Executed.eq_usageFault {s t : State} {i : Instr} (h : Executed s i t) {c : Completion}
    (hc : t.completion = some c) (hstatus : c.status = .usageFault) : ∃ why, t = usageFault why s := by
  cases h with
  | doubleLatch | reservedKind | noLatched | badLength => exact ⟨_, rfl⟩
  | quiet _ _ c' _ hsuccess =>
    cases hc
    rw [hsuccess] at hstatus
    exact Status.noConfusion hstatus
  | deferred | busWidth | nullBuffer | copied =>
    cases hc
    exact Status.noConfusion hstatus
  | dispatched idx arg =>
    cases hc
    exact absurd hstatus (dispatch_status settings_stop_not_bearing idx arg s).1
  | badBusWidth =>
    cases hc
    have hne : badWidthStatus s.draws ≠ .usageFault := by
      unfold badWidthStatus
      split <;> exact Status.noConfusion
    exact absurd hstatus hne
  | replayed address length buffer =>
    obtain ⟨-, -, -, -, -, -, -, -, hcompletion, -⟩ := transferBlock_spec settings (transferOf settings buffer length) s
    rw [hcompletion] at hc
    cases hc
    exact absurd hstatus (dispatch_status settings_stop_not_bearing ..).1

end Sys2Proof.Machine

open Sys2Proof Sys2Proof.Machine

/-- Settles O3: the request taken from the list is no part of the invariant, and `Executed.inv` says the rest. -/
theorem stepKeepsInvariant : Obligations.StepKeepsInvariant := by
  intro s t hs hstep
  rcases step_next_cases hstep with ⟨-, rfl⟩ | ⟨req, rest, -, hrun⟩
  · exact hs
  · have htaken : (s.setRequests rest).Inv := ⟨hs.seqStep, hs.seqIter, hs.phase, hs.cleared, hs.latched, hs.mem⟩
    rcases hrun with rfl | ⟨i, -, hexec⟩
    · exact htaken.deliver _
    · exact (executed_of_exec hexec).inv htaken

/-- Settles O54: every way an operation completes appends the events of its group (`Executed.eventsOf`). -/
theorem accessesFollowTheRegisterTable : Obligations.AccessesFollowTheRegisterTable := by
  intro i s t h
  obtain ⟨evs, htrace, hperform, -⟩ := (executed_of_exec h).eventsOf.events
  exact ⟨evs, htrace, hperform⟩

/-- Settles O55: each poll requests at most its budget of delays, and `Executed.eventsOf` adds them up. -/
theorem delaysAreBounded : Obligations.DelaysAreBounded := by
  intro i s t h
  obtain ⟨evs, htrace, -, hdelays⟩ := (executed_of_exec h).eventsOf.events
  exact ⟨evs, htrace, hdelays⟩

/-- Settles O53: the table gives memory writes to the response group alone, and RECVRSP is the only operation of that
group. -/
theorem onlyTheResponseReaderWritesMemory : Obligations.OnlyTheResponseReaderWritesMemory := by
  intro i s t h
  have hx := executed_of_exec h
  by_cases hi : ∃ code out, i = .recvrsp code out
  · obtain ⟨code, out, rfl⟩ := hi
    obtain ⟨evs, htrace, hcount⟩ := hx.memWrites_recvrsp
    refine ⟨evs, htrace, fun hne => absurd rfl (hne code out), fun code' out' heq => ?_⟩
    cases heq
    rw [← hcount, List.countP_eq_length_filter]
    rfl
  · obtain ⟨evs, htrace, hperform, -⟩ := hx.eventsOf.events
    refine ⟨evs, htrace, fun _ a v hmem => ?_, fun code out heq => absurd ⟨code, out, heq⟩ hi⟩
    have hgroup : accessGroup i = .response := by simpa [mayPerform] using hperform _ hmem
    rcases instr_cases i with ⟨idx, arg, rfl⟩ | rfl | rfl | rfl | ⟨_, rfl⟩ | ⟨_, _, _, rfl⟩ | ⟨code, out, rfl⟩ |
      ⟨_, _, _, rfl⟩ | ⟨_, _, _, rfl⟩
    case inl =>
      rw [accessGroup_sendcmd] at hgroup
      exact AccessGroup.noConfusion hgroup
    case inr.inr.inr.inr.inr.inr.inl => exact hi ⟨code, out, rfl⟩
    all_goals exact AccessGroup.noConfusion hgroup

/-- Settles O52: `Executed.pendingFlag` for the operations; CONFIGURE and WRITE_BLOCK leave the flag. -/
theorem pendingSetByDeferralClearedByReplay : Obligations.PendingSetByDeferralClearedByReplay := by
  refine ⟨fun i s t h => ?_, fun d s => (configure_kept settings d s).pending, fun address length buffer s t h => ?_⟩
  · have hflag := (executed_of_exec h).pendingFlag
    exact ⟨hflag.set, hflag.cleared⟩
  · cases h
    rfl

/-- Settles O56: the statuses of a DISPATCH, of a bus width and of the quiet operations leave only the refusals. -/
theorem usageFaultChangesNothingElse : Obligations.UsageFaultChangesNothingElse := by
  rintro i s t h ⟨c, hc, hstatus⟩
  exact (executed_of_exec h).eq_usageFault hc hstatus

/-- Settles O1, by the definition of the reset state. -/
theorem resetBlockState : Obligations.ResetBlockState := ⟨rfl, rfl, rfl, rfl, rfl, rfl, rfl⟩

/-- Settles O2: nothing is pending and memory lists no byte. -/
theorem resetMeetsInvariant : Obligations.ResetMeetsInvariant where
  seqStep := rfl
  seqIter := rfl
  phase := rfl
  cleared _ := ⟨rfl, rfl⟩
  latched h := Bool.noConfusion h
  mem := by simp [State.reset, Memory.wf]

/-- Settles O4: the port takes the head of the list and the decoder names the operation. -/
theorem stepRunsTheNextRequest : Obligations.StepRunsTheNextRequest := by
  intro s req rest i hreq hidle hdecode _
  rw [step_of_request hreq hidle, runRequest, hdecode]
  rfl

/-- Settles O5: each of the three forms is a reserved encoding of the decoder. -/
theorem reservedRequestsCompleteWithUsageFault : Obligations.ReservedRequestsCompleteWithUsageFault := by
  intro s req rest hreq hidle hreserved
  obtain ⟨why, hdecode⟩ := decode_reserved hreserved
  rw [step_of_request hreq hidle, runRequest, hdecode]
  rfl

/-- Settles O6, by the two tests of a step: is a request waiting, is an operation in progress. -/
theorem stepWaitsOrStops : Obligations.StepWaitsOrStops := by
  intro s
  unfold step nextRequest
  cases hreq : s.hostRequests with
  | nil => exact ⟨fun _ h => if_pos h, fun _ h => if_neg h, fun h => absurd rfl h⟩
  | cons req rest => exact ⟨nofun, nofun, fun _ h => if_neg h⟩
end

section
/-! SUPPORT. The words the block assembles, bit by bit, and the lengths, offsets and status bits they are made of
(spec/30_encoding.md R66 to R69, R75, R76, spec/41_data_path.md R151, R152, spec/10_state.md R20, R24). -/

namespace Sys2Proof.Machine

/-! ### Bits of a word -/

/-- `BIT(n)` (00_scope.md R7). -/
theorem bit_getLsbD {n i : Nat} (hi : i < 32) : (bit n).getLsbD i = decide (i = n) := by
  rw [bit, ← BitVec.twoPow_eq, BitVec.getLsbD_twoPow]
  by_cases h : n = i
  · simp [h, hi]
  · simp [h, Ne.symm h]

/-- A bit of a mask that a word does not meet is clear in the word. -/
theorem getLsbD_of_and_eq_zero {w mask : Word} {i : Nat} (h : w &&& mask = 0) (hi : mask.getLsbD i = true) :
    w.getLsbD i = false := by
  have hbit := congrArg (·.getLsbD i) h
  simpa [hi] using hbit

/-- A field of a word is the vector with the same bits. -/
theorem extractLsb'_eq_of_bits {w : Word} {start len : Nat} {x : BitVec len}
    (h : ∀ i < len, w.getLsbD (start + i) = x.getLsbD i) : w.extractLsb' start len = x := by
  apply BitVec.eq_of_getLsbD_eq
  intro i hi
  rw [BitVec.getLsbD_extractLsb', decide_eq_true hi, Bool.true_and, h i hi]

/-! ### The control word -/

/-- The control word bit by bit: the index from bit 0, the wait code from bit 8, enable at 12, transfer at 6, stop at 7
(30_encoding.md R66). -/
theorem controlWord_getLsbD (idx : Idx) (kind : DescKind) (trans stop : Bool) {i : Nat} (hi : i < 32) :
    (controlWord settings idx kind trans stop).getLsbD i =
      (idx.getLsbD i || decide (i = 12) || (trans && decide (i = 6)) || (stop && decide (i = 7)) || (decide (8 ≤ i) && (waitCode settings kind).getLsbD (i - 8))) := by
  have hword : controlWord settings idx kind trans stop = (idx.setWidth 32 <<< 0) ||| bit 12 |||
    (if trans then bit 6 else 0) ||| (if stop then bit 7 else 0) ||| ((waitCode settings kind).setWidth 32 <<< 8) := rfl
  have hflag (b : Bool) (n : Nat) : (if b then bit n else 0 : Word).getLsbD i = (b && decide (i = n)) := by
    cases b
    · exact BitVec.getLsbD_zero
    · exact bit_getLsbD hi
  have hwait : ((waitCode settings kind).setWidth 32 <<< 8).getLsbD i =
      (decide (8 ≤ i) && (waitCode settings kind).getLsbD (i - 8)) := by
    by_cases h8 : i < 8
    · simp [h8, Nat.not_le.2 h8]
    · simp [h8, Nat.not_lt.1 h8, hi]
  rw [hword, BitVec.getLsbD_or, BitVec.getLsbD_or, BitVec.getLsbD_or, BitVec.getLsbD_or, bit_getLsbD hi, hflag, hflag,
    hwait, BitVec.shiftLeft_zero, BitVec.getLsbD_setWidth, decide_eq_true hi, Bool.true_and]

/-! ### Lengths -/

/-- A length is valid exactly when it is a power of two (41_data_path.md R152). -/
theorem validLength_iff (n : Word) : validLength n = true ↔ ∃ k, n.toNat = 2 ^ k := by
  have hand (h : n ≠ 0) : n &&& (n - 1) = 0 ↔ n.toNat &&& (n.toNat - 1) = 0 := by
    have hpos : 1 ≤ n.toNat := Nat.one_le_iff_ne_zero.2 fun h0 => h (BitVec.eq_of_toNat_eq h0)
    have hpred : (n - 1).toNat = n.toNat - 1 := BitVec.toNat_sub_of_le (BitVec.le_def.2 hpos)
    rw [← BitVec.toNat_inj, BitVec.toNat_and, hpred]
    rfl
  have hzero : n ≠ 0 ↔ n.toNat ≠ 0 := not_congr ⟨fun h => by rw [h]; rfl, fun h => BitVec.eq_of_toNat_eq h⟩
  have hpow : (n.toNat ≠ 0 ∧ n.toNat &&& (n.toNat - 1) = 0) ↔ ∃ k, n.toNat = 2 ^ k :=
    Nat.ne_zero_and_sub_one_eq_zero_iff_isPowerOfTwo
  rw [← hpow, ← hzero, validLength, Bool.and_eq_true, bne_iff_ne, beq_iff_eq]
  exact and_congr_right hand

/-- The lengths READ_BLOCK accepts (41_data_path.md R152). -/
theorem validLength_clampLength_iff (len : Word) :
    validLength (clampLength settings len) = true ↔ 512 ≤ len.toNat ∨ ∃ k ≤ 8, len.toNat = 2 ^ k := by
  refine ⟨fun hvalid => ?_, validLength_clampLength⟩
  obtain ⟨k, hk⟩ := (validLength_iff _).1 hvalid
  rw [clampLength_toNat] at hk
  rcases Nat.lt_or_ge len.toNat 512 with hlt | hge
  · rw [min_eq_left hlt.le] at hk
    have hpow : 2 ^ k < 2 ^ 9 := hk ▸ hlt
    exact Or.inr ⟨k, Nat.lt_succ_iff.1 ((Nat.pow_lt_pow_iff_right (by decide)).1 hpow), hk⟩
  · exact Or.inl hge

/-! ### Register addresses -/

/-- The seventeen registers (10_state.md R20). -/
def allRegs : List Reg := [.power, .clkcr, .arg, .cmd, .resp1, .resp2, .resp3, .resp4, .dtimer, .dlen, .dctrl, .dcount,
  .sta, .icr, .mask, .idmactrl, .idmabase]

theorem mem_allRegs (r : Reg) : r ∈ allRegs := by cases r <;> decide

theorem refOffset_aligned (r : Reg) : (refOffset r).toNat % 4 = 0 := by cases r <;> rfl

/-- No two registers have one offset (10_state.md R20). -/
theorem refOffset_injective {q r : Reg} (h : refOffset q = refOffset r) : q = r := by
  have hall : ∀ q ∈ allRegs, ∀ r ∈ allRegs, refOffset q = refOffset r → q = r := by decide
  exact hall q (mem_allRegs q) r (mem_allRegs r) h

/-- The base address is a multiple of 4 (20_memory.md R42). -/
theorem base_aligned (b : BitVec 30) : (b ++ 0#2).toNat % 4 = 0 := by
  rw [BitVec.toNat_append]
  simp [Nat.shiftLeft_eq]

/-! ### The clock-control word -/

/-- The clock-control word bit by bit: the divider from bit 0, the width bits, and the word read outside both
(30_encoding.md R76). -/
theorem clkcrWord_getLsbD (c wbits : Word) {i : Nat} (hi : i < 32) : (clkcrWord settings c wbits).getLsbD i =
    (c.getLsbD i && decide (10 ≤ i ∧ i ≠ 14 ∧ i ≠ 15) || wbits.getLsbD i || Config.clkdivFixed.getLsbD i) := by
  have hmask : ∀ j < 32, (0xFFFF3C00 : Word).getLsbD j = decide (10 ≤ j ∧ j ≠ 14 ∧ j ≠ 15) := by decide
  have hword : clkcrWord settings c wbits = (c &&& 0xFFFF3C00) ||| wbits ||| Config.clkdivFixed.setWidth 32 := rfl
  rw [hword, BitVec.getLsbD_or, BitVec.getLsbD_or, BitVec.getLsbD_and, hmask i hi, BitVec.getLsbD_setWidth,
    decide_eq_true hi, Bool.true_and]

/-! ### The error of a data snapshot -/

/-- The classification of a snapshot, by bit number (40_command_dispatch.md R116). -/
theorem classifyData_settings (mask sta : Word) : classifyData settings mask true sta =
    if (sta &&& mask).getLsbD 1 then .dataCrcFailure else if (sta &&& mask).getLsbD 3 then .dataTimeout
    else if (sta &&& mask).getLsbD 4 then .fifoUnderrun else if (sta &&& mask).getLsbD 5 then .fifoOverrun
    else if (sta &&& mask).getLsbD 27 then .dmaTransferError else .success := rfl

/-- A snapshot is a Success exactly when it shows no awaited error bit (40_command_dispatch.md R116). -/
theorem classifyData_success_iff (mask sta : Word) :
    classifyData settings mask true sta = .success ↔ sta &&& mask &&& 0x0800003A = 0 := by
  refine ⟨fun h => ?_, fun h => ?_⟩
  · by_contra hne
    exact classifyData_ne_success (mask := mask) (last := some sta) Config.dataFlagsOf
      (fun v hv => by rwa [← Option.some.inj hv]) h
  · have hclear (i : Nat) (hi : (0x0800003A#32).getLsbD i = true) : (sta &&& mask).getLsbD i = false :=
      getLsbD_of_and_eq_zero h hi
    rw [classifyData_settings, hclear 1 rfl, hclear 3 rfl, hclear 4 rfl, hclear 5 rfl, hclear 27 rfl]
    rfl

end Sys2Proof.Machine

open Sys2Proof Sys2Proof.Machine

/-- Settles O11: each field of the word is read off `controlWord_getLsbD`; outside its own bits the index and the wait
code have none. -/
theorem controlWordFields : Obligations.ControlWordFields := by
  intro idx kind trans stop cw
  have hbit {i : Nat} (hi : i < 32) := controlWord_getLsbD idx kind trans stop hi
  have hindex {i : Nat} (hi : 6 ≤ i) : idx.getLsbD i = false := BitVec.getLsbD_of_ge idx i hi
  have hwait {i : Nat} (hi : 2 ≤ i) : (waitCode settings kind).getLsbD i = false := BitVec.getLsbD_of_ge _ i hi
  refine ⟨extractLsb'_eq_of_bits fun i hi => ?_, (hbit (by decide)).trans (by simp), (hbit (by decide)).trans (by simp),
    (hbit (by decide)).trans (by simp), extractLsb'_eq_of_bits fun i hi => ?_, extractLsb'_eq_of_bits fun i hi => ?_,
    extractLsb'_eq_of_bits fun i hi => ?_⟩
  · rw [hbit (by omega)]
    simp [show ¬ 8 ≤ i by omega, show i ≠ 12 by omega, show i ≠ 6 by omega, show i ≠ 7 by omega]
  · rw [hbit (by omega), hindex (by omega)]
    simp [show 8 + i ≠ 12 by omega, show 8 + i ≠ 6 by omega, show 8 + i ≠ 7 by omega]
  · rw [hbit (by omega), hindex (by omega), hwait (by omega)]
    simp [show 10 + i ≠ 12 by omega, show 10 + i ≠ 6 by omega, show 10 + i ≠ 7 by omega]
  · rw [hbit (by omega), hindex (by omega), hwait (by omega)]
    simp [show 13 + i ≠ 12 by omega, show 13 + i ≠ 6 by omega, show 13 + i ≠ 7 by omega]

/-- Settles O13: below 512 the clamp changes nothing, so a valid length is its own power of two. -/
theorem clampAndValidLengths : Obligations.ClampAndValidLengths :=
  fun len => ⟨clampLength_toNat len, validLength_clampLength_iff len⟩

/-- Settles O14: the two ORs of the augmentation are for different indices. -/
theorem argumentAugmentation : Obligations.ArgumentAugmentation := by
  intro idx arg
  have haugment : augment settings idx arg =
    arg ||| (if idx = 1 then 0x80000000 else 0) ||| (if idx = 41 then 0x00300000 else 0) := rfl
  rw [haugment]
  by_cases h1 : idx = 1
  · simp [h1]
  by_cases h41 : idx = 41
  · simp [h41]
  · rw [if_neg h1, if_neg h41, if_neg h1, if_neg h41]
    simp

/-- Settles O15, by computing the words of the reference configuration. -/
theorem referenceWords : Obligations.ReferenceWords := by
  refine ⟨fun row hrow => ?_, fun row hrow => ?_, by decide⟩
  · fin_cases hrow <;> rfl
  · fin_cases hrow <;> rfl

/-- Settles O16: the offsets are multiples of 4 and pairwise different, and the base address drops out. -/
theorem registerAddressesAligned : Obligations.RegisterAddressesAligned := by
  have haddress (r : Reg) : regAddress settings r = (Config.baseWord ++ 0#2) + refOffset r := rfl
  refine ⟨?_, fun r => ?_, fun q r h => ?_⟩
  · intro row hrow
    rw [haddress]
    congr 1
    revert row
    decide
  · have hbase := base_aligned Config.baseWord
    have hoffset := refOffset_aligned r
    rw [haddress, BitVec.toNat_add]
    omega
  · rw [haddress, haddress] at h
    exact refOffset_injective (add_left_cancel h)

/-- Settles O17, by computing the codes. -/
theorem statusCodes : Obligations.StatusCodes := rfl

/-- Settles O33: the first of the error bits decides, and the machine's own mask is cut down to the data bits. -/
theorem dataErrorsWinOverDone : Obligations.DataErrorsWinOverDone := by
  constructor
  case right =>
    intro idx
    rw [← withFlags_dataFlagsOf, dataMask_withFlags, BitVec.and_assoc]
    exact BitVec.and_zero
  intro mask sta m
  refine ⟨classifyData_success_iff mask sta, fun h => ?_, fun h0 h => ?_, fun h0 h => ?_, fun h0 h => ?_,
    fun h0 h => ?_⟩
  · rw [classifyData_settings, if_pos h]
  · rw [classifyData_settings, getLsbD_of_and_eq_zero h0 (i := 1) rfl, h]
    rfl
  · rw [classifyData_settings, getLsbD_of_and_eq_zero h0 (i := 1) rfl, getLsbD_of_and_eq_zero h0 (i := 3) rfl, h]
    rfl
  · rw [classifyData_settings, getLsbD_of_and_eq_zero h0 (i := 1) rfl, getLsbD_of_and_eq_zero h0 (i := 3) rfl,
      getLsbD_of_and_eq_zero h0 (i := 4) rfl, h]
    rfl
  · rw [classifyData_settings, getLsbD_of_and_eq_zero h0 (i := 1) rfl, getLsbD_of_and_eq_zero h0 (i := 3) rfl,
      getLsbD_of_and_eq_zero h0 (i := 4) rfl, getLsbD_of_and_eq_zero h0 (i := 5) rfl, h]
    rfl
end

section
/-! SUPPORT. The operations that run no DISPATCH: deferral, the refusals of SEND_COMMAND and READ_BLOCK, WRITE_BLOCK,
the data registers and the host surface (spec/40_command_dispatch.md R101, R102, spec/41_data_path.md R152 to R170,
spec/43_host_surface.md R192 to R197). -/

namespace Sys2Proof.Machine

/-- The whole state after a register read (20_memory.md R46). -/
theorem State.afterRead_eq (s : State) (r : Reg) : s.afterRead r = { s with
    ctrlAnswers := s.ctrlAnswers.tail
    draws := s.draws + (if s.ctrlAnswers = [] then 1 else 0)
    trace := s.trace ++ [.rd r (s.answer r)] } := by
  unfold State.afterRead State.answer
  cases h : s.ctrlAnswers with
  | nil => simp [State.emit, State.addDraws, h]
  | cons v rest => simp [State.emit, State.setAnswers]

/-- A data-bearing command with nothing latched is deferred, the whole next state (40_command_dispatch.md R101). -/
theorem sendCommand_deferred {idx : Idx} {arg : Word} {s : State} (hb : dataBearing settings idx arg = true)
    (hp : s.pending = false) : sendCommand settings idx arg s = { s with
      latchOpcode := idx, latchArg := arg, pending := true, phase := .deferred,
      completion := some ⟨.success, 0, none, none⟩ } := by
  rw [sendCommand, if_pos hb, if_neg (by simp [hp])]
  rfl

/-- The width bits of a valid bus width stand at bit 14 for width 4, at bit 15 for width 8 (30_encoding.md R76). -/
theorem widthBits?_of_valid {width : Word} (h : width = 0 ∨ width = 4 ∨ width = 8) :
    ∃ wbits, widthBits? settings width = some wbits ∧ ∀ i < 32, wbits.getLsbD i =
      (decide (i = 14) && width == 4 || decide (i = 15) && width == 8) := by
  rcases h with rfl | rfl | rfl
  · exact ⟨0, rfl, by decide⟩
  · exact ⟨bit 14, rfl, by decide⟩
  · exact ⟨bit 15, rfl, by decide⟩

theorem widthBits?_of_invalid {width : Word} (h0 : width ≠ 0) (h4 : width ≠ 4) (h8 : width ≠ 8) :
    widthBits? settings width = none := by
  rw [widthBits?, if_neg h0, if_neg h4, if_neg h8]

theorem badWidthStatus_cases (draw : Nat) :
    badWidthStatus draw = .success ∨ badWidthStatus draw = .invalidArgument := by
  unfold badWidthStatus
  split
  · exact Or.inr rfl
  · exact Or.inl rfl

/-- SETBUS is SET_BUS_PARAMETERS in the machine's configuration; `clock` and `timing` are ignored
(43_host_surface.md R197). -/
theorem exec_setbus (width clock timing : Word) (s : State) :
    exec (.setbus width clock timing) s = .next (setBus settings width s) := rfl

end Sys2Proof.Machine

open Sys2Proof Sys2Proof.Machine

/-- Settles O18: the three indices are data-bearing with every argument. -/
theorem readAndAppCommandsAreDeferred : Obligations.ReadAndAppCommandsAreDeferred := by
  intro arg s hp
  have hdeferred (idx : Idx) (hb : dataBearing settings idx arg = true) :=
    (exec_sendcmd idx arg s).trans (congrArg _ (sendCommand_deferred hb hp))
  refine ⟨hdeferred 17 ?_, hdeferred 18 ?_, hdeferred 51 ?_⟩ <;> simp [dataBearing_settings]

/-- Settles O20: the refusal is tested before the latch is written. -/
theorem secondDataCommandIsRefused : Obligations.SecondDataCommandIsRefused := by
  intro idx arg s hp hb
  rw [exec_sendcmd, sendCommand, if_pos hb, if_pos hp]
  rfl

/-- Settles O39: READ_BLOCK tests the pending flag first. -/
theorem readBlockNeedsALatchedCommand : Obligations.ReadBlockNeedsALatchedCommand := by
  intro address length buffer s hp
  rw [exec_rdblk, readBlock, if_pos (by simp [hp])]
  rfl

/-- Settles O40: the lengths it names are those `validLength_clampLength_iff` does not accept. -/
theorem readBlockRefusesBadLength : Obligations.ReadBlockRefusesBadLength := by
  intro address length buffer s hp hlt hpow
  have hbad : ¬ validLength (clampLength settings length) = true := by
    rw [validLength_clampLength_iff]
    rintro (hge | ⟨k, hk, hlen⟩)
    · omega
    · exact hpow k hk hlen
  rw [exec_rdblk, readBlock, if_neg (by simp [hp]), if_pos (by simpa using hbad)]
  rfl

/-- Settles O42: `At.programTransfer` in the machine's configuration. -/
theorem dataRegistersAreProgrammed : Obligations.DataRegistersAreProgrammed := by
  intro buffer length d s rest hanswers n
  have hstart : At (d :: rest) s.trace s.nextIsAcmd s := ⟨hanswers, rfl, rfl⟩
  exact (hstart.programTransfer settings (transferOf settings buffer length)).events

/-- Settles O46: WRBLK is one delivery. -/
theorem writeBlockIsAStub : Obligations.WriteBlockIsAStub := fun _ _ _ _ => rfl

/-- Settles O49: NOTIFY is one delivery; DEVPATH is one with the descriptor drawn for it. -/
theorem notifyAndDevicePathAreQuiet : Obligations.NotifyAndDevicePathAreQuiet :=
  fun _ s => ⟨rfl, Config.devicePath s.draws, rfl⟩

/-- Settles O50: the word written is `clkcrWord` of the word read, and `clkcrWord_getLsbD` says what each of its bits
is. -/
theorem validBusWidthIsProgrammed : Obligations.ValidBusWidthIsProgrammed := by
  intro width clock timing s hwidth
  obtain ⟨wbits, hvalid, hbits⟩ := widthBits?_of_valid hwidth
  have hword {i : Nat} (hi : i < 32) := clkcrWord_getLsbD (s.answer .clkcr) wbits hi
  have hdivider {i : Nat} (hi : 10 ≤ i) : Config.clkdivFixed.getLsbD i = false := BitVec.getLsbD_of_ge _ i hi
  have hmask : ∀ i < 32, (0xFFFF3C00 : Word).getLsbD i = decide (10 ≤ i ∧ i ≠ 14 ∧ i ≠ 15) := by decide
  refine ⟨_, clkcrWord settings (s.answer .clkcr) wbits, exec_setbus width clock timing s, ?_, ?_, ?_, ?_, ?_⟩
  · rw [hword (by decide), hbits 14 (by decide), hdivider (by decide)]
    simp
  · rw [hword (by decide), hbits 15 (by decide), hdivider (by decide)]
    simp
  · refine extractLsb'_eq_of_bits fun i hi => ?_
    rw [Nat.zero_add, hword (by omega), hbits i (by omega)]
    simp [show ¬ 10 ≤ i by omega, show i ≠ 14 by omega, show i ≠ 15 by omega]
  · apply BitVec.eq_of_getLsbD_eq
    intro i hi
    rw [BitVec.getLsbD_and, BitVec.getLsbD_and, hword hi, hbits i hi, hmask i hi]
    by_cases hfield : 10 ≤ i ∧ i ≠ 14 ∧ i ≠ 15
    · rw [hdivider hfield.1]
      simp [hfield]
    · rw [decide_eq_false hfield, Bool.and_false, Bool.and_false]
  · rw [setBus, hvalid]
    simp only [State.afterRead_eq, State.answer_atRule, State.regWrite, State.setCtrl, State.emit, List.append_assoc,
      List.singleton_append]
    rfl

/-- Settles O51: the width has no width bits, and the free choice of the status is between two. -/
theorem invalidBusWidthIsLogged : Obligations.InvalidBusWidthIsLogged := by
  intro width clock timing s h0 h4 h8
  refine ⟨badWidthStatus s.draws, badWidthStatus_cases s.draws, ?_⟩
  rw [exec_setbus, setBus, widthBits?_of_invalid h0 h4 h8]
  rfl
end

section
/-! SUPPORT. What a DISPATCH reports, leaves and issues from every state: its two phases, its cleanup, and SEND_COMMAND
and READ_BLOCK over it (spec/40_command_dispatch.md R100 to R119, spec/41_data_path.md R160). -/

namespace Sys2Proof.Machine

/-! ### The two phases of a DISPATCH -/

/-- What the command phase of a DISPATCH from `s` gives (40_command_dispatch.md R104 to R113). -/
def commandResult (cfg : Cfg) (idx : Idx) (arg : Word) (s : State) : Result :=
  commandPhase cfg (descriptorAt cfg idx arg s)
    (issueCommand cfg (descriptorAt cfg idx arg s) (updateMarker cfg idx (engineDisable cfg s)))

/-- What the last phase of a DISPATCH from `s` gives: the data phase, if there is one (40_command_dispatch.md R115). -/
def phaseResult (cfg : Cfg) (idx : Idx) (arg : Word) (s : State) : Result :=
  if (commandResult cfg idx arg s).status = .success ∧ (descriptorAt cfg idx arg s).trans = true then
    dataPhase cfg (descriptorAt cfg idx arg s) (commandResult cfg idx arg s).state
  else commandResult cfg idx arg s

/-- The body of DISPATCH reports the status of its last phase, and leaves by the quiet exit after a Success without
data, else by the exit path (40_command_dispatch.md R114, R117). -/
theorem dispatchBody_eq_phases (cfg : Cfg) (idx : Idx) (arg : Word) (s : State) :
    dispatchBody cfg idx arg s = ⟨(phaseResult cfg idx arg s).status,
      if (phaseResult cfg idx arg s).status = .success ∧ (descriptorAt cfg idx arg s).trans = false then
        quietExit cfg (commandResult cfg idx arg s).state
      else exitPath cfg (phaseResult cfg idx arg s).state⟩ := by
  have hbody : dispatchBody cfg idx arg s =
    afterCommandPhase cfg (descriptorAt cfg idx arg s) (commandResult cfg idx arg s) := dispatchBody_eq cfg idx arg s
  rw [hbody, afterCommandPhase, phaseResult]
  by_cases hsuccess : (commandResult cfg idx arg s).status = .success
  · cases htrans : (descriptorAt cfg idx arg s).trans <;> simp [hsuccess]
  · simp [hsuccess]

/-! ### The cleanup -/

/-- Step 13 with the data path active (40_command_dispatch.md R118, R119). -/
theorem cleanup_of_active {cfg : Cfg} {r : Result} (h : (r.state.answer .sta).getLsbD cfg.stDpsmact = true) :
    let q := dispatchBody cfg cfg.idxStop cfg.stopArg ((r.state.atRule 118).afterRead .sta)
    cleanup cfg r = ⟨if q.status ≠ .success then q.status else r.status, q.state⟩ := by
  unfold cleanup
  dsimp only
  rw [State.answer_atRule]
  exact if_pos h

/-- Step 13 with the data path at rest (40_command_dispatch.md R118). -/
theorem cleanup_of_inactive {cfg : Cfg} {r : Result} (h : ¬ (r.state.answer .sta).getLsbD cfg.stDpsmact = true) :
    cleanup cfg r = ⟨r.status, (r.state.atRule 118).afterRead .sta⟩ := by
  unfold cleanup
  dsimp only
  rw [State.answer_atRule]
  exact if_neg h

/-- A nested DISPATCH has no cleanup (40_command_dispatch.md R118). -/
theorem dispatch_nested (cfg : Cfg) (idx : Idx) (arg : Word) (s : State) :
    dispatch cfg idx arg false s = dispatchBody cfg idx arg s := by simp [dispatch]

/-! ### The commands issued -/

theorem Ran.issued {g : AccessGroup} {n : Nat} {cs : List (Word × Word)} {s t : State} (h : Ran g n cs s t) :
    ∃ evs, t.trace = s.trace ++ evs ∧ issued evs = cs := by
  obtain ⟨evs, htrace, -, -, -, hissued⟩ := h.events
  exact ⟨evs, htrace, by simpa using hissued []⟩

/-- The registers SEND_COMMAND may write (10_state.md R20). -/
theorem mayWrite_command_iff (r : Reg) : mayWrite .command r = true ↔ r ∈ [Reg.arg, .cmd, .icr, .dctrl] := by
  cases r <;> decide

/-- The registers READ_BLOCK may write (10_state.md R20). -/
theorem mayWrite_block_iff (r : Reg) : mayWrite .block r = true ↔
    r ∈ [Reg.arg, .cmd, .icr, .dctrl, .dtimer, .dlen, .idmactrl, .idmabase] := by
  cases r <;> decide

/-- The stop-transmission of a cleanup in the words of the machine's configuration (40_command_dispatch.md R118,
R119). -/
theorem stopsAfter_settings (r : Result) : stopsAfter settings r =
    if r.status ≠ .success ∧ (r.state.answer .sta).getLsbD 12 = true
    then [(0, controlWord settings 12 (Config.respKindOf 12) false true)] else [] := by
  have harg : augment settings settings.idxStop settings.stopArg = 0 := by decide
  rw [stopsAfter, harg]
  rfl

/-- A command that is not data-bearing, in the words of the machine's configuration (40_command_dispatch.md R110). -/
theorem commandAt_of_not_bearing {idx : Idx} {arg : Word} (h : dataBearing settings idx arg = false) (s : State) :
    commandAt settings idx arg s =
      (augment settings idx arg, controlWord settings idx (Config.respKindOf idx) false (idx == 12)) := by
  rw [commandAt, no_data_of_not_bearing h]
  rfl

/-- An index that is neither 1 nor 41 keeps its argument (30_encoding.md R68). -/
theorem augment_of_ne {idx : Idx} (h1 : idx ≠ 1) (h41 : idx ≠ 41) (arg : Word) : augment settings idx arg = arg := by
  rw [argumentAugmentation idx arg, if_neg h1, if_neg h41]

/-- The next state of a command that is not data-bearing (40_command_dispatch.md R103). -/
theorem exec_sendcmd_of_not_bearing {idx : Idx} {arg : Word} (h : dataBearing settings idx arg = false) (s : State) :
    exec (Instr.sendcmd idx arg) s =
      .next (finish (dispatch settings idx arg true s).status (dispatch settings idx arg true s).state) := by
  rw [exec_sendcmd, sendCommand_of_not_bearing h]

end Sys2Proof.Machine

open Sys2Proof Sys2Proof.Machine

/-- Settles O27: the statuses of a DISPATCH without data phase, and what every DISPATCH leaves alone. -/
theorem dispatchedCommandCompletes : Obligations.DispatchedCommandCompletes := by
  intro idx arg s hb
  have hstatus := dispatch_status_of_no_data settings_stop_not_bearing (no_data_of_not_bearing hb s)
  have hkept := dispatch_kept settings idx arg true s
  exact ⟨_, _, exec_sendcmd_of_not_bearing hb s, rfl, hstatus, hkept.latchOpcode, hkept.latchArg, hkept.pending,
    hkept.phase, rfl, rfl⟩

/-- Settles O19: index 6 defers as every data-bearing command does, and an inquiry runs the DISPATCH of index 6. -/
theorem switchFunctionDefersOrDispatches : Obligations.SwitchFunctionDefersOrDispatches := by
  intro arg s hp
  by_cases hinquiry : Config.isInquiryArg arg = true
  · have hb : dataBearing settings 6 arg = false := by simp [dataBearing_settings, hinquiry]
    have hkept := dispatch_kept settings 6 arg true s
    obtain ⟨evs, htrace, hissued⟩ := (sendCommand_ran hb s).issued
    rw [commandAt_of_not_bearing hb, augment_of_ne (by decide) (by decide), stopsAfter_settings] at hissued
    refine ⟨_, exec_sendcmd_of_not_bearing hb s, ?_⟩
    rw [if_pos hinquiry]
    refine ⟨hkept.pending.trans hp, hkept.latchOpcode, hkept.latchArg, hkept.phase,
      dispatch_marker_of_ne settings_stop_ne_appCmd (by decide) arg s, evs, _, htrace, ?_, hissued⟩
    split
    · exact Or.inr rfl
    · exact Or.inl rfl
  · have hb : dataBearing settings 6 arg = true := by simp [dataBearing_settings, hinquiry]
    refine ⟨_, exec_sendcmd 6 arg s, ?_⟩
    rw [if_neg hinquiry]
    exact sendCommand_deferred hb hp

/-- Settles O28: `dispatch_ran` lists the commands of a top-level DISPATCH, and a SEND_COMMAND appends only those. -/
theorem stopIsIssuedOnceOnError : Obligations.StopIsIssuedOnceOnError := by
  intro idx arg s r commands
  refine ⟨?_, fun hb => ?_⟩
  · obtain ⟨evs, htrace, hissued⟩ :=
      (dispatch_ran (g := .command) (Or.inl rfl) settings_stop_not_bearing idx arg s).issued
    exact ⟨evs, htrace, by rw [hissued, stopsAfter_settings]; rfl⟩
  · obtain ⟨evs, htrace, hissued⟩ := (sendCommand_ran hb s).issued
    exact ⟨_, evs, exec_sendcmd_of_not_bearing hb s, htrace,
      by rw [hissued, commandAt_of_not_bearing hb, stopsAfter_settings]⟩

/-- Settles O29: the cleanup of an active data path, and the marker that the stop-transmission's own step 3 leaves. -/
theorem failedCleanupOverrides : Obligations.FailedCleanupOverrides := by
  intro idx arg s r q out st herror hactive
  have hout : out = ⟨if q.status ≠ .success then q.status else r.status, q.state⟩ :=
    (dispatch_of_error herror).trans (cleanup_of_active hactive)
  have hstatus : out.status = st := by
    rw [hout]
    exact ite_not ..
  have hmarker : out.state.nextIsAcmd = false := by
    rw [hout]
    exact dispatchBody_marker settings 12 0 _
  exact ⟨hstatus, hmarker, fun hb => ⟨_, exec_sendcmd_of_not_bearing hb s, by rw [← hstatus]; rfl, hmarker⟩⟩

/-- Settles O30: step 3 of the last DISPATCH that ran decides, and that is the cleanup's when there is one. -/
theorem markerAfterDispatch : Obligations.MarkerAfterDispatch := by
  intro idx arg s
  have hbody : (dispatchBody settings idx arg s).state.nextIsAcmd = (idx == 55) :=
    dispatchBody_marker settings idx arg s
  refine ⟨by rw [dispatch_nested, hbody], ?_⟩
  by_cases hstatus : (dispatchBody settings idx arg s).status = .success
  · rw [dispatch_of_success hstatus, hbody, hstatus]
    simp
  · rw [dispatch_of_error hstatus, cleanup_marker settings_stop_ne_appCmd, hbody, bne_iff_ne.2 hstatus]
    rfl

/-- Settles O31: a refusal and a deferral touch no register, and a DISPATCH only the registers of the table. -/
theorem sendCommandFrame : Obligations.SendCommandFrame := by
  intro idx arg s t h
  rw [exec_sendcmd] at h
  cases h
  rcases sendCommand_cases settings idx arg s with ⟨hb, -, h⟩ | ⟨hb, -, h⟩ | ⟨hb, h⟩
  case inr.inr =>
    have hkept := dispatch_kept settings idx arg true s
    rw [h]
    refine ⟨hkept.hostRequests, fun a => congrArg (Memory.read · a) hkept.mem, fun r ha hc hi hd => ?_,
      fun _ => ⟨hkept.latchOpcode, hkept.latchArg, hkept.pending, hkept.phase⟩, fun hb' => ?_⟩
    · refine (sendCommand_ran hb s).get_of_not_mayWrite (Bool.eq_false_iff.2 fun hw => ?_)
      simpa [ha, hc, hi, hd] using (mayWrite_command_iff r).1 hw
    · rw [hb] at hb'
      exact Bool.noConfusion hb'
  all_goals
    rw [h]
    exact ⟨rfl, fun _ => rfl, fun _ _ _ _ _ => rfl, fun hb' => by rw [hb] at hb'; exact Bool.noConfusion hb',
      fun _ => ⟨rfl, rfl, rfl⟩⟩

/-- Settles O57: `dispatchBody_eq_phases` for the body, then the cleanup in its two cases. -/
theorem dispatchReportsItsPhases : Obligations.DispatchReportsItsPhases := by
  intro idx arg s d command phase left active stop out
  have hbody : dispatchBody settings idx arg s = ⟨phase.status,
    if phase.status = .success ∧ d.trans = false then quietExit settings command.state else left⟩ :=
    dispatchBody_eq_phases settings idx arg s
  clear_value phase command
  have hstop : stop = dispatchBody settings 12 0 ((left.atRule 118).afterRead .sta) := dispatch_nested ..
  suffices hout : out = ⟨if active = true ∧ stop.status ≠ .success then stop.status else phase.status,
      if phase.status = .success then (if d.trans then left else quietExit settings command.state)
      else if active then stop.state else (left.atRule 118).afterRead .sta⟩ by
    refine ⟨by rw [hout], by rw [hout], fun hb => ⟨_, exec_sendcmd_of_not_bearing hb s, rfl, rfl⟩⟩
  by_cases hstatus : phase.status = .success
  · have hactive : active = false := by simp [active, hstatus]
    have hout : out = dispatchBody settings idx arg s := dispatch_of_success (by rw [hbody]; exact hstatus) true
    rw [hout, hbody, hactive]
    cases htrans : d.trans <;> simp [hstatus]
  · have hleft : dispatchBody settings idx arg s = ⟨phase.status, left⟩ := by
      rw [hbody, if_neg fun h => hstatus h.1]
    have hout : out = cleanup settings ⟨phase.status, left⟩ := by
      rw [← hleft]
      exact dispatch_of_error (by rw [hleft]; exact hstatus)
    have hactive : active = (left.answer .sta).getLsbD 12 := by simp [active, hstatus]
    by_cases hdpsm : (left.answer .sta).getLsbD 12 = true
    · have hstopped : out = ⟨if stop.status ≠ .success then stop.status else phase.status, stop.state⟩ := by
        rw [hout, hstop]
        exact cleanup_of_active (r := ⟨phase.status, left⟩) hdpsm
      rw [hstopped, if_neg hstatus, hactive, hdpsm]
      simp
    · have hrest : out = ⟨phase.status, (left.atRule 118).afterRead .sta⟩ :=
        hout.trans (cleanup_of_inactive (r := ⟨phase.status, left⟩) hdpsm)
      rw [hrest, if_neg hstatus, hactive, if_neg hdpsm, if_neg fun h => hdpsm h.1]

/-- Settles O43: the commands of a whole READ_BLOCK; at replay the marker is 0 and the latched command is data-bearing,
so its transfer bit is set and its argument goes out as latched. -/
theorem readBlockIssuesTheLatchedCommand : Obligations.ReadBlockIssuesTheLatchedCommand := by
  intro address length buffer s hs hp hlen n blockLength configured replay stops
  have hb := hs.latched hp
  obtain ⟨-, hidx1, hidx12, hidx41, hidx55⟩ := index_ne_of_bearing hb
  let td := transferOf settings buffer length
  obtain ⟨-, -, -, -, -, -, -, -, -, hmarker, -⟩ := transferBlock_spec settings td s
  obtain ⟨evs, htrace, hissued⟩ := (transferBlock_ran_whole td s).issued
  have hexec : exec (.rdblk address length buffer) s = .next (transferBlock settings td s) := by
    rw [exec_rdblk, readBlock_of_good hp (validLength_clampLength hlen)]
  have hblocklen (entry : State) : commandAt settings settings.idxSetBlocklen n entry =
      (n, controlWord settings 16 (Config.respKindOf 16) false false) := by
    rw [commandAt_of_not_bearing (settings_blocklen_not_bearing n), augment_of_ne (by decide) (by decide)]
    rfl
  have hlatched : commandAt settings s.latchOpcode s.latchArg (replayEntry settings td s) =
      (s.latchArg, controlWord settings s.latchOpcode (Config.respKindOf s.latchOpcode) true false) := by
    have hstop : (s.latchOpcode == settings.idxStop) = false := beq_false_of_ne hidx12
    rw [commandAt, replay_trans, hb, hstop, augment_of_ne hidx1 hidx41]
    rfl
  refine ⟨_, evs, hexec, htrace, ?_, ?_⟩
  · rw [hmarker]
    exact dispatch_marker_of_ne settings_stop_ne_appCmd hidx55 ..
  · rw [hissued, blockCommands, hlatched, stopsAfter_settings, stopsAfter_settings]
    exact congrArg (· :: _ ++ _) (hblocklen _)

/-- Settles O44: a refusal changes nothing but the completion; a replay is followed by what IDMA leaves in the armed
range, and the table lists the registers it writes. -/
theorem readBlockFrame : Obligations.ReadBlockFrame := by
  intro address length buffer s t h
  rw [exec_rdblk] at h
  cases h
  rcases readBlock_cases settings length buffer s with ⟨-, h⟩ | ⟨-, -, h⟩ | ⟨-, -, h⟩ <;> rw [h]
  case inr.inr =>
    let td := transferOf settings buffer length
    obtain ⟨-, -, -, -, -, -, hrequests, hmem, -⟩ := transferBlock_spec settings td s
    refine ⟨hrequests, fun a ha => ?_, fun r hr => ?_⟩
    · rw [hmem]
      exact Memory.read_fillFree_of_ne ha
    · exact (transferBlock_ran_whole td s).get_of_not_mayWrite (Bool.eq_false_iff.2 fun hw =>
        hr ((mayWrite_block_iff r).1 hw))
  all_goals exact ⟨rfl, fun _ _ => rfl, fun _ _ => rfl⟩
end

section
/-! SUPPORT. Polls from every state, the classification and the log of the command phase, and the whole state a command
without data leaves when CTRL's answers are given (spec/40_command_dispatch.md R104 to R121). -/

namespace Sys2Proof.Machine

/-! ### Polls -/

/-- What a poll read: the snapshots `misses` that missed the mask and, on a hit, one more that meets it
(40_command_dispatch.md R121). -/
structure Polled (mask : Word) (budget : Nat) (last : Word) (s : State) (p : PollResult) (misses : List Word) :
    Prop where
  miss : ∀ v ∈ misses, v &&& mask = 0
  count : p.state.seqIter = s.seqIter + misses.length
  hit : p.hit = true → misses.length < budget ∧ p.sta &&& mask ≠ 0 ∧
    p.state.trace = s.trace ++ missEvents misses ++ [Event.rd .sta p.sta]
  spent : p.hit = false → misses.length = budget ∧ (last :: misses).getLast? = some p.sta ∧
    p.state.trace = s.trace ++ missEvents misses

theorem pollLoop_polled (mask : Word) (budget : Nat) (last : Word) (s : State) :
    ∃ misses, Polled mask budget last s (pollLoop mask budget last s) misses := by
  induction budget generalizing last s with
  | zero => exact ⟨[], by simp, rfl, fun h => Bool.noConfusion h, fun _ => ⟨rfl, rfl, by simp [pollLoop, missEvents]⟩⟩
  | succ k ih =>
    by_cases hmeets : s.answer .sta &&& mask ≠ 0
    · have hloop : pollLoop mask (k + 1) last s = ⟨true, s.answer .sta, s.afterRead .sta⟩ := by
        rw [pollLoop]
        exact if_pos hmeets
      rw [hloop]
      exact ⟨[], by simp, by simp, fun _ => ⟨by simp, hmeets, by simp [missEvents]⟩, fun h => Bool.noConfusion h⟩
    · let s' := (s.afterRead .sta).delay.setIter ((s.afterRead .sta).seqIter + 1)
      have hloop : pollLoop mask (k + 1) last s = pollLoop mask k (s.answer .sta) s' := by
        rw [pollLoop]
        exact if_neg hmeets
      have htrace : s'.trace = s.trace ++ [Event.rd .sta (s.answer .sta), .dly] := by simp [s', State.delay]
      have hiter : s'.seqIter = s.seqIter + 1 := by simp [s']
      obtain ⟨misses, hmiss, hcount, hhit, hspent⟩ := ih (s.answer .sta) s'
      rw [hloop]
      refine ⟨s.answer .sta :: misses, ?_, ?_, fun h => ?_, fun h => ?_⟩
      · intro v hv
        rcases List.mem_cons.1 hv with rfl | hv
        · exact not_not.1 hmeets
        · exact hmiss v hv
      · rw [hcount, hiter, List.length_cons]
        omega
      · obtain ⟨hlen, hsta, hevents⟩ := hhit h
        exact ⟨by simpa using hlen, hsta, by simp [hevents, htrace, missEvents]⟩
      · obtain ⟨hlen, hlast, hevents⟩ := hspent h
        exact ⟨by simpa using hlen, by simpa using hlast, by simp [hevents, htrace, missEvents]⟩

/-! ### The command phase -/

/-- A hit of the command poll in the words of the machine's configuration (40_command_dispatch.md R112). -/
theorem classifyCommand_settings (idx : Idx) (kind : DescKind) (sta : Word) :
    classifyCommand settings (cmdMask settings idx kind) true sta = if sta.getLsbD 2 then .commandTimeout
      else if idx ≠ 0 ∧ (kind = .short ∨ kind = .busy) ∧ sta.getLsbD 0 = true then .crcFailure else .success := by
  have hclass : classifyCommand settings (cmdMask settings idx kind) true sta = if sta.getLsbD 2 then .commandTimeout
      else if (sta &&& cmdMask settings idx kind).getLsbD 0 then .crcFailure else .success := rfl
  have hcrc : (sta &&& cmdMask settings idx kind).getLsbD 0 = true ↔
      idx ≠ 0 ∧ (kind = .short ∨ kind = .busy) ∧ sta.getLsbD 0 = true := by
    rw [BitVec.getLsbD_and, cmdMask_getLsbD]
    by_cases hidx : idx = 0
    · simp [hidx]
    · have hbit : (decide (0 = 2) || (decide (0 = 6) || (decide (kind = .short ∨ kind = .busy) && decide (0 = 0)))) =
          decide (kind = .short ∨ kind = .busy) := by simp
      rw [if_neg hidx, hbit, Bool.and_eq_true, decide_eq_true_eq, and_iff_right hidx, and_comm]
  rw [hclass]
  simp only [hcrc]

/-- The events of the log of a command-phase status (40_command_dispatch.md R113). -/
def commandLog (idx : Idx) (st : Status) : List Event :=
  if st = .success ∨ (st = .commandTimeout ∧ (idx = 1 ∨ idx = 8 ∨ idx = 13)) then []
  else [Event.log (.commandError st idx)]

theorem logCommand_eq {idx : Idx} {st : Status} (h : st = .success ∨ st = .commandTimeout ∨ st = .crcFailure)
    (s : State) :
    logCommand settings idx st s = { s with trace := s.trace ++ commandLog idx st } := by
  have hprimitive : isPollingPrimitive settings idx = true ↔ idx = 1 ∨ idx = 8 ∨ idx = 13 := by
    have heq : isPollingPrimitive settings idx = (idx == 1 || idx == 13 || idx == 8) := rfl
    rw [heq]
    simp only [Bool.or_eq_true, beq_iff_eq]
    tauto
  rcases h with rfl | rfl | rfl
  · simp [logCommand, commandLog]
  · by_cases hidx : idx = 1 ∨ idx = 8 ∨ idx = 13
    · simp only [logCommand, commandLog, hprimitive, hidx, and_self, or_true, if_true, List.append_nil]
    · simp only [logCommand, commandLog, hprimitive, hidx, if_false, and_false, or_false, reduceCtorEq]
      rfl
  · simp only [logCommand, commandLog, reduceCtorEq, false_and, or_self, if_false]
    rfl

/-- The command phase over its poll (40_command_dispatch.md R111 to R113). -/
theorem commandPhase_eq (d : CommandDescriptor) (s : State) :
    let p := poll (cmdMask settings d.idx d.kind) 10 (s.atRule 111)
    let st := classifyCommand settings (cmdMask settings d.idx d.kind) p.hit p.sta
    commandPhase settings d s = ⟨st, { p.state with
      seqStep := .rule 113
      trace := p.state.trace ++ commandLog d.idx st }⟩ := by
  intro p st
  have hphase : commandPhase settings d s = ⟨st, logCommand settings d.idx st (p.state.atRule 113)⟩ := rfl
  rw [hphase, logCommand_eq (classifyCommand_cases ..)]
  rfl

end Sys2Proof.Machine

open Sys2Proof Sys2Proof.Machine

/-- Settles O23: with a budget above 0 a poll without a hit has missed at least once. -/
theorem pollReadsThenDelays : Obligations.PollReadsThenDelays := by
  intro mask iters s hpos
  obtain ⟨misses, hmiss, hcount, hhit, hspent⟩ := pollLoop_polled mask iters 0 (s.setIter 0)
  refine ⟨misses, hmiss, hcount.trans (Nat.zero_add _), hhit, fun h => ?_⟩
  obtain ⟨hlen, hlast, htrace⟩ := hspent h
  refine ⟨hlen, ?_, htrace⟩
  cases misses with
  | nil => exact absurd hlen hpos.ne
  | cons v vs =>
    rw [List.getLast?_cons_cons] at hlast
    exact hlast

/-- Settles O24: `commandPhase_eq` over the poll, and `poll_of_hit` where the answers are given. -/
theorem commandPhaseClassifies : Obligations.CommandPhaseClassifies := by
  intro d s mask classify logs p c
  have hc : c = ⟨classifyCommand settings mask p.hit p.sta, { p.state with
    seqStep := .rule 113
    trace := p.state.trace ++ commandLog d.idx (classifyCommand settings mask p.hit p.sta) }⟩ := commandPhase_eq d s
  have hclassify (sta : Word) : classifyCommand settings mask true sta = classify sta := classifyCommand_settings ..
  refine ⟨?_, by rw [hc]; rfl, fun misses rest sta hanswers hlen hmisses hmeets => ?_⟩
  · rw [hc]
    cases p.hit with
    | false => rfl
    | true => exact hclassify p.sta
  · have hp : p = _ := poll_of_hit (s := s.atRule 111) hanswers hlen hmisses hmeets
    rw [hc, hp, hclassify]
    refine ⟨rfl, rfl, ?_⟩
    simp only [State.atRule_trace, List.append_assoc, List.singleton_append]
    rfl

/-- Settles O32: `poll_of_misses` with the configured budget, a timeout whatever the last snapshot is. -/
theorem dataPhaseTimesOut : Obligations.DataPhaseTimesOut := by
  refine ⟨⟨rfl, rfl, rfl⟩, fun cfg d s polls rest hanswers hlen hmisses => ?_⟩
  have hstart : At (polls ++ rest) s.trace s.nextIsAcmd s := ⟨hanswers, rfl, rfl⟩
  have hfailed : DataFailed cfg d.idx polls none .dataTimeout :=
    ⟨⟨hmisses, fun _ => hlen, nofun⟩, rfl, Status.noConfusion⟩
  obtain ⟨hstatus, hat⟩ := At.dataPhase (l := rest) hfailed (by simpa using hstart)
  exact ⟨hstatus, hat.answers, by simpa [dataErrorEvents, missEvents] using hat.events⟩
end

section
/-! SUPPORT. The whole state after each part of a DISPATCH without data when CTRL's answers are given
(spec/40_command_dispatch.md R104 to R118). -/

namespace Sys2Proof.Machine

/-- The descriptor of a command without data (40_command_dispatch.md R105). -/
abbrev plainDescriptor (idx : Idx) (arg : Word) : CommandDescriptor :=
  { idx := idx, arg := arg, kind := Config.respKindOf idx, trans := false, stop := idx == 12 }

/-- The controller's registers once a command without data is issued with the marker at `marker`
(40_command_dispatch.md R108 to R110). -/
def issuedRegs (marker : Bool) (idx : Idx) (arg : Word) (regs : CtrlRegs) : CtrlRegs := { regs with
  icr := 0x080005FF
  dctrl := if marker then regs.dctrl else 0
  arg := augment settings idx arg
  cmd := controlWord settings idx (Config.respKindOf idx) false (idx == 12) }

/-- The events of issuing a command without data with the marker at `marker` (40_command_dispatch.md R108 to R110). -/
def issueWrites (marker : Bool) (idx : Idx) (arg : Word) : List Event :=
  Event.wr .icr 0x080005FF :: (if marker then [] else [Event.wr .dctrl 0]) ++ [Event.wr .arg (augment settings idx arg),
    .wr .cmd (controlWord settings idx (Config.respKindOf idx) false (idx == 12))]

/-- The events of steps 1 to 7 when the command register reads as `c` (40_command_dispatch.md R104 to R110). -/
def issueEvents (idx : Idx) (arg c : Word) : List Event :=
  Event.rd .cmd c :: (if c.getLsbD 12 then [Event.wr .cmd 0] else []) ++ issueWrites (idx == 55) idx arg

/-- Step 6 of a command without data, the whole state (40_command_dispatch.md R109). -/
theorem clearDataControl_plain (idx : Idx) (arg : Word) (s : State) :
    clearDataControl (plainDescriptor idx arg) s = { s with
      seqStep := .rule 109
      ctrl := { s.ctrl with dctrl := if s.nextIsAcmd then s.ctrl.dctrl else 0 }
      trace := s.trace ++ if s.nextIsAcmd then [] else [Event.wr .dctrl 0] } := by
  unfold clearDataControl
  by_cases hmarker : s.nextIsAcmd = true
  · rw [if_pos hmarker, if_pos hmarker, List.append_nil]
    exact if_neg (by simp [hmarker])
  · rw [if_neg hmarker, if_neg hmarker]
    exact if_pos (by simp [hmarker])

/-- Steps 4 to 7 of a command without data, the whole state (40_command_dispatch.md R107 to R110). -/
theorem issueCommand_plain (idx : Idx) (arg : Word) (s : State) :
    issueCommand settings (plainDescriptor idx arg) s = { s with
      seqStep := .rule 110
      ctrl := issuedRegs s.nextIsAcmd idx arg s.ctrl
      trace := s.trace ++ issueWrites s.nextIsAcmd idx arg } := by
  rw [issueCommand, clearDataControl_plain idx arg, settings_staticFlags]
  simp only [State.regWrite, State.setCtrl, State.emit, State.atRule, CtrlRegs.set, issuedRegs, issueWrites,
    List.append_assoc, List.cons_append, List.nil_append]
  rfl

/-- The whole state after steps 1 to 7 of a command without data (40_command_dispatch.md R104 to R110). -/
theorem issueCommand_of_cons {idx : Idx} {arg c : Word} {s : State} {rest : List Word} (h : s.ctrlAnswers = c :: rest) :
    issueCommand settings (plainDescriptor idx arg) (updateMarker settings idx (engineDisable settings s)) = { s with
      nextIsAcmd := idx == 55
      seqStep := .rule 110
      ctrl := issuedRegs (idx == 55) idx arg s.ctrl
      ctrlAnswers := rest
      trace := s.trace ++ issueEvents idx arg c } := by
  have hmarked (t : State) :
    updateMarker settings idx t = { t with nextIsAcmd := idx == 55, seqStep := .rule 106 } := rfl
  rw [engineDisable_of_cons h, issueCommand_plain, hmarked]
  dsimp only [issuedRegs, issueEvents]
  generalize c.getLsbD 12 = enabled
  cases enabled <;> simp

/-- A DISPATCH without data whose steps 1 to 7 leave `t`, over its command phase (40_command_dispatch.md R111 to
R117). -/
theorem dispatchBody_plain {idx : Idx} {arg : Word} (hb : dataBearing settings idx arg = false) {s t : State}
    (h : issueCommand settings (plainDescriptor idx arg) (updateMarker settings idx (engineDisable settings s)) = t) :
    dispatchBody settings idx arg s = afterCommandPhase settings (plainDescriptor idx arg)
      (commandPhase settings (plainDescriptor idx arg) t) := by
  rw [dispatchBody_eq, descriptorAt, describe_of_not_bearing hb, h]

/-- The exit path, the whole state (40_command_dispatch.md R117). -/
theorem exitPath_of_cons {c : Word} {s : State} {rest : List Word} (h : s.ctrlAnswers = c :: rest) :
    exitPath settings s = { s with
      seqStep := .rule 117
      ctrl := { s.ctrl with icr := 0x080005FF, cmd := c &&& 0xFFFFFFBF }
      ctrlAnswers := rest
      trace := s.trace ++ [.wr .icr 0x080005FF, .rd .cmd c, .wr .cmd (c &&& 0xFFFFFFBF)] } := by
  have hmask : ~~~bit settings.cmdTrans = 0xFFFFFFBF := by decide
  have hanswers : ((s.atRule 117).regWrite .icr 0x080005FF).ctrlAnswers = c :: rest := h
  rw [exitPath, settings_staticFlags, hmask, answer_of_cons hanswers, afterRead_of_cons hanswers]
  simp only [State.regWrite, State.setCtrl, State.emit, State.atRule, CtrlRegs.set, List.append_assoc, List.cons_append,
    List.nil_append]

/-- The awaited command bits are among the four command bits (30_encoding.md R74). -/
theorem and_cmdMask_of_and_commandBits {v : Word} (h : v &&& 0xC5 = 0) (idx : Idx) (kind : DescKind) :
    v &&& cmdMask settings idx kind = 0 := by
  have hbits : ∀ i < 32, i = 0 ∨ i = 2 ∨ i = 6 ∨ i = 7 → (0xC5 : Word).getLsbD i = true := by decide
  apply BitVec.eq_of_getLsbD_eq
  intro i hi
  rw [BitVec.getLsbD_and, cmdMask_getLsbD, show (0 : Word).getLsbD i = false from BitVec.getLsbD_zero]
  by_cases hcommand : i = 0 ∨ i = 2 ∨ i = 6 ∨ i = 7
  · rw [getLsbD_of_and_eq_zero h (hbits i hi hcommand), Bool.false_and]
  · simp only [not_or] at hcommand
    obtain ⟨h0, h2, h6, h7⟩ := hcommand
    simp [h0, h2, h6, h7]

/-- The done bit of an index meets its awaited mask (30_encoding.md R74). -/
theorem and_cmdMask_of_done {sta : Word} {idx : Idx} (h : sta.getLsbD (if idx = 0 then 7 else 6) = true)
    (kind : DescKind) : sta &&& cmdMask settings idx kind ≠ 0 := by
  have hawaited : (cmdMask settings idx kind).getLsbD (if idx = 0 then 7 else 6) = true := by
    rw [cmdMask_getLsbD]
    by_cases hidx : idx = 0
    · rw [if_pos hidx, if_pos hidx]
      rfl
    · rw [if_neg hidx, if_neg hidx]
      rfl
  intro hzero
  rw [getLsbD_of_and_eq_zero hzero hawaited] at h
  exact Bool.noConfusion h

end Sys2Proof.Machine

open Sys2Proof Sys2Proof.Machine

/-- Settles O25: the states after steps 1 to 7, 8 and 9, 10, each whole. -/
theorem commandSucceedsOnFirstPoll : Obligations.CommandSucceedsOnFirstPoll := by
  intro idx arg s c sta rest hb hanswers htimeout hcrc hdone disable clear issue
  let mask := cmdMask settings idx (Config.respKindOf idx)
  let issued : State := { s with
    nextIsAcmd := idx == 55
    seqStep := .rule 110
    ctrl := issuedRegs (idx == 55) idx arg s.ctrl
    ctrlAnswers := sta :: rest
    trace := s.trace ++ issueEvents idx arg c }
  let polled : State := { issued with
    seqStep := .rule 113
    seqIter := 0
    ctrlAnswers := rest
    trace := issued.trace ++ [.rd .sta sta] }
  have hpoll : poll mask 10 (issued.atRule 111) = _ := poll_of_first_hit 9 rfl (and_cmdMask_of_done hdone _)
  have hclass : classifyCommand settings mask true sta = .success := by
    rw [classifyCommand_settings, htimeout, hcrc]
    simp
  have hphase : commandPhase settings (plainDescriptor idx arg) issued = ⟨.success, polled⟩ := by
    rw [commandPhase_eq, hpoll, hclass]
    simp [commandLog, polled, State.atRule]
  have hbody : dispatchBody settings idx arg s = ⟨.success, quietExit settings polled⟩ := by
    rw [dispatchBody_plain hb (issueCommand_of_cons hanswers), hphase]
    rfl
  rw [exec_sendcmd_of_not_bearing hb, dispatch_of_success (by rw [hbody]), hbody]
  simp [finish, State.seqIdle, State.deliver, Completion.of, quietExit, State.regWrite, State.setCtrl, State.emit,
    State.atRule, CtrlRegs.set, settings_staticFlags, polled, issued, issuedRegs, issueEvents, issueWrites, disable,
    clear, issue]

/-- Settles O26: the states after steps 1 to 7, 8 and 9, 12, 13, each whole. -/
theorem commandTimesOutAfterTenPolls : Obligations.CommandTimesOutAfterTenPolls := by
  intro idx arg s c c2 st polls rest hb hanswers hlen hmisses hactive disable clear issue misses log
  let mask := cmdMask settings idx (Config.respKindOf idx)
  let issued : State := { s with
    nextIsAcmd := idx == 55
    seqStep := .rule 110
    ctrl := issuedRegs (idx == 55) idx arg s.ctrl
    ctrlAnswers := polls ++ c2 :: st :: rest
    trace := s.trace ++ issueEvents idx arg c }
  let polled : State := { issued with
    seqStep := .rule 113
    seqIter := 10
    ctrlAnswers := c2 :: st :: rest
    trace := issued.trace ++ misses ++ log }
  have hpoll : poll mask polls.length (issued.atRule 111) = _ :=
    poll_of_misses rfl fun v hv => and_cmdMask_of_and_commandBits (hmisses v hv) idx _
  rw [hlen] at hpoll
  have hphase : commandPhase settings (plainDescriptor idx arg) issued = ⟨.commandTimeout, polled⟩ := by
    rw [commandPhase_eq, hpoll]
    simp [commandLog, polled, State.atRule, classifyCommand, misses, log]
  have hbody : dispatchBody settings idx arg s = ⟨.commandTimeout, exitPath settings polled⟩ := by
    rw [dispatchBody_plain hb (issueCommand_of_cons hanswers), hphase]
    rfl
  have hexit : exitPath settings polled = _ := exitPath_of_cons rfl
  have hread : (exitPath settings polled).answer .sta = st := by
    rw [hexit]
    exact answer_of_cons rfl _
  have hdispatch : dispatch settings idx arg true s =
      ⟨.commandTimeout, ((exitPath settings polled).atRule 118).afterRead .sta⟩ := by
    rw [dispatch_of_error (by rw [hbody]; exact Status.noConfusion), hbody]
    exact cleanup_of_inactive (r := ⟨.commandTimeout, exitPath settings polled⟩) 
      (by rw [hread]; exact Bool.eq_false_iff.1 hactive)
  rw [exec_sendcmd_of_not_bearing hb, hdispatch, hexit, afterRead_of_cons rfl]
  simp [finish, State.seqIdle, State.deliver, Completion.of, State.atRule, polled, issued, issuedRegs, issueEvents,
    issueWrites, disable, clear, issue, log]
end

section
/-! SUPPORT. A READ_BLOCK whose data phase succeeds at its first status read, and the same in the reference
configuration (spec/41_data_path.md R150 to R163, spec/95_test_vectors.md B-1). -/

namespace Sys2Proof.Machine

/-! ### A data phase that succeeds at its first status read -/

/-- `data` ends the data poll of `idx` and shows no error (40_command_dispatch.md R115, R116). -/
structure DataDone (cfg : Cfg) (idx : Idx) (data : Word) : Prop where
  budget : 0 < cfg.dataPollIters
  hit : data &&& dataMask cfg idx ≠ 0
  success : classifyData cfg (dataMask cfg idx) true data = .success

section
variable {cfg : Cfg} {l : List Word} {evs : List Event} {m : Bool} {s : State}

/-- Step 11 when its first status read shows the data done. -/
theorem At.dataPhase_of_done {d : CommandDescriptor} {data : Word} (hdone : DataDone cfg d.idx data)
    (h : At (data :: l) evs m s) : (Machine.dataPhase cfg d s).status = .success ∧
      At l (evs ++ [Event.rd .sta data]) m (Machine.dataPhase cfg d s).state := by
  obtain ⟨hhit, hsta, hat⟩ := At.poll_of_hit (misses := []) (h.atRule 115) hdone.budget (by simp) hdone.hit
  simp only [Machine.dataPhase, hhit, hsta, hdone.success, logData, if_true, true_and]
  simpa [missEvents] using hat.atRule 116

/-- Steps 1 to 12 of a data-bearing command with the marker at 0, command and data done at their first status reads. -/
theorem At.dispatchBody_of_data_done {idx : Idx} {arg c sta data c' : Word} (hbudget : 0 < cfg.cmdPollIters)
    (hdone : CommandDone cfg idx sta) (hbearing : dataBearing cfg idx arg = true) (hdata : DataDone cfg idx data)
    (h : At (c :: sta :: data :: c' :: l) evs false s) :
    (dispatchBody cfg idx arg s).status = .success ∧
      At l (evs ++ (commandEvents cfg (describe cfg idx arg false) c sta ++ [Event.rd .sta data] ++ exitEvents cfg c'))
        (idx == cfg.idxAppCmd) (dispatchBody cfg idx arg s).state := by
  obtain ⟨hstatus, hissued⟩ := At.issued (arg := arg) hbudget hdone h
  have htrans : (describe cfg idx arg false).trans = true := by simp [describe, hbearing]
  obtain ⟨hsuccess, hat⟩ := At.dataPhase_of_done (d := describe cfg idx arg false) hdata hissued
  rw [dispatchBody_eq, descriptorAt, h.marker, afterCommandPhase, if_pos hstatus, if_pos htrans]
  refine ⟨hsuccess, ?_⟩
  simpa [exitEvents] using hat.exitPath cfg

/-- A replay whose command and data are done at their first status reads (41_data_path.md R160). -/
theorem At.replayed_of_data_done {t : TransferDescriptor} {c sta data c' : Word} (hcfg : PlainCommands cfg)
    (hdone : CommandDone cfg s.latchOpcode sta) (hbearing : dataBearing cfg s.latchOpcode s.latchArg = true)
    (hdata : DataDone cfg s.latchOpcode data)
    (h : At (c :: sta :: data :: c' :: l) evs false (Machine.configure cfg t s)) :
    (replayed cfg t s).status = .success ∧
      At l (evs ++ (commandEvents cfg (describe cfg s.latchOpcode s.latchArg false) c sta ++ [Event.rd .sta data] ++
        exitEvents cfg c')) (s.latchOpcode == cfg.idxAppCmd) (replayed cfg t s).state := by
  have hentry := ((h.atRule 160).setPhase .armed).setPhase .executing
  obtain ⟨hstatus, hat⟩ := hentry.dispatchBody_of_data_done hcfg.budget hdone hbearing hdata
  rw [replayed, dispatch_of_success hstatus]
  exact ⟨hstatus, hat⟩

end

/-! ### The reference configuration -/

theorem plainCommands_cfgRef : PlainCommands cfgRef where
  budget := by decide
  blocklen_bearing _ := rfl
  stop_bearing := rfl
  blocklen_ne := by decide
  stop_ne := by decide

/-- The data-bearing commands (30_encoding.md R70). -/
theorem index_of_bearing_cfgRef {idx : Idx} {arg : Word} (h : dataBearing cfgRef idx arg = true) :
    idx = 6 ∨ idx = 51 ∨ idx = 17 ∨ idx = 18 := by
  have hbearing : dataBearing cfgRef idx arg =
    ((idx == 6 && !cfgRef.isInquiryArg arg) || idx == 51 || idx == 17 || idx == 18) := rfl
  rw [hbearing] at h
  simp only [Bool.or_eq_true, Bool.and_eq_true, beq_iff_eq] at h
  tauto

/-- A snapshot that shows command-complete alone of the command bits ends the command poll with no error: the masks and
the bits of the reference configuration are the machine's. -/
theorem commandDone_cfgRef {idx : Idx} {sta : Word} (hidx : idx ≠ 0) (hsta : sta &&& 0x45 = 0x40) :
    CommandDone cfgRef idx sta := by
  have hcrc : sta.getLsbD 0 = false := by simpa using congrArg (·.getLsbD 0) hsta
  have htimeout : sta.getLsbD 2 = false := by simpa using congrArg (·.getLsbD 2) hsta
  have hcomplete : sta.getLsbD 6 = true := by simpa using congrArg (·.getLsbD 6) hsta
  have hclass := classifyCommand_settings idx (refRespKind idx) sta
  rw [htimeout, hcrc] at hclass
  exact ⟨and_cmdMask_of_done (by rw [if_neg hidx]; exact hcomplete) (refRespKind idx), hclass.trans (by simp)⟩

/-- A snapshot with a done bit and no error bit ends the data poll with a Success. -/
theorem dataDone_cfgRef (idx : Idx) {data : Word} (hdone : data &&& 0x500 ≠ 0) (herror : data &&& 0x0800003A = 0) :
    DataDone cfgRef idx data := by
  have hmask : dataMask cfgRef idx = 0x0800053A := show 0x0800053A &&& dataAll cfgRef = 0x0800053A by decide
  have hclass : classifyData cfgRef 0x0800053A true data = .success ↔ data &&& 0x0800053A &&& 0x0800003A = 0 :=
    classifyData_success_iff 0x0800053A data
  refine ⟨by decide, ?_, ?_⟩ <;> rw [hmask]
  · intro hzero
    have hsub : data &&& 0x500 = data &&& 0x0800053A &&& 0x500 := by
      rw [BitVec.and_assoc]
      rfl
    exact hdone (by rw [hsub, hzero]; exact BitVec.zero_and)
  · rw [hclass, BitVec.and_assoc]
    exact herror

/-- The control word of a data-bearing command: each has a short response (95_test_vectors.md E-3). -/
theorem controlWord_of_bearing_cfgRef {idx : Idx} (h : idx = 6 ∨ idx = 51 ∨ idx = 17 ∨ idx = 18) :
    controlWord cfgRef idx (refRespKind idx) true false = idx.setWidth 32 ||| 0x00001140 := by
  rcases h with rfl | rfl | rfl | rfl <;> decide

/-- The words of the events of a command that neither augments its argument nor sets the marker. -/
theorem commandEvents_cfgRef {idx : Idx} (hop : idx ≠ 1) (happ : idx ≠ 41) (hmark : idx ≠ 55) (arg : Word)
    (kind : DescKind) (trans stop : Bool) (c sta : Word) :
    commandEvents cfgRef ⟨idx, arg, kind, trans, stop⟩ c sta =
      [Event.rd .cmd c] ++ (if c.getLsbD 12 then [Event.wr .cmd 0] else []) ++ [Event.wr .icr 0x080005FF] ++
        (if trans then [] else [Event.wr .dctrl 0]) ++
        [Event.wr .arg arg, Event.wr .cmd (controlWord cfgRef idx kind trans stop), Event.rd .sta sta] :=
  commandEvents_withFlags Config.dataFlagsOf hop happ hmark arg kind trans stop c sta

/-- The descriptor of a data-bearing command that finds the marker at 0 (40_command_dispatch.md R105). -/
theorem describe_of_bearing_cfgRef {idx : Idx} {arg : Word} (h : dataBearing cfgRef idx arg = true) :
    describe cfgRef idx arg false = ⟨idx, arg, refRespKind idx, true, false⟩ := by
  have hstop : (idx == cfgRef.idxStop) = false := by
    rcases index_of_bearing_cfgRef h with rfl | rfl | rfl | rfl <;> rfl
  rw [describe, h, hstop]
  rfl

/-- The words of CONFIGURE's events, its set-block-length included (41_data_path.md R154 to R157). -/
theorem configureEvents_cfgRef (t : TransferDescriptor) (marker : Bool) (c sta d : Word) :
    configureEvents cfgRef t marker c sta d = [Event.cache t.buf t.n, Event.rd .cmd c] ++
      (if c.getLsbD 12 then [Event.wr .cmd 0] else []) ++
      [Event.wr .icr 0x080005FF, Event.wr .dctrl 0, Event.wr .arg t.n, Event.wr .cmd 0x00001110, Event.rd .sta sta,
        Event.wr .icr 0x080005FF] ++
      [Event.wr .dtimer 0xFFFFFFFF, Event.wr .dlen t.n, Event.wr .idmabase t.buf, Event.rd .dctrl d,
        Event.wr .dctrl (dctrlWord cfgRef d t.e), Event.wr .idmactrl 1] := by
  have hdescribe : describe cfgRef cfgRef.idxSetBlocklen t.n marker = ⟨16, t.n, .short, false, false⟩ := rfl
  have hword : controlWord cfgRef 16 .short false false = 0x00001110 := by decide
  have hregisters : registerEvents cfgRef t d = [Event.wr .dtimer 0xFFFFFFFF, Event.wr .dlen t.n,
    Event.wr .idmabase t.buf, Event.rd .dctrl d, Event.wr .dctrl (dctrlWord cfgRef d t.e), Event.wr .idmactrl 1] := rfl
  have hclear : cfgRef.staticFlags = 0x080005FF := rfl
  rw [configureEvents, hdescribe, hregisters, commandEvents_cfgRef (by decide) (by decide) (by decide), hword, hclear]
  simp

/-- The words of the exit path's events (40_command_dispatch.md R117). -/
theorem exitEvents_cfgRef (c : Word) : exitEvents cfgRef c =
    [Event.wr .icr 0x080005FF, Event.rd .cmd c, Event.wr .cmd (c &&& 0xFFFFFFBF)] :=
  exitEvents_withFlags Config.dataFlagsOf c

end Sys2Proof.Machine

open Sys2Proof Sys2Proof.Machine

/-- Settles O45: `At.configure` and `At.replayed_of_data_done`, chained by the answers still to come; the events are
then written in the words of the reference configuration. -/
theorem referenceReadBlockSuccess : Obligations.ReferenceReadBlockSuccess := by
  intro length buffer s c1 sta1 d c2 sta2 data c3 rest hp hbearing hvalid hanswers hsta1 hsta2 hdone herror n t disable
    blockLength registers command
  let td := transferOf cfgRef buffer length
  have hidx := index_of_bearing_cfgRef hbearing
  have hne (i : Idx) (hi : ∀ j, j = 6 ∨ j = 51 ∨ j = 17 ∨ j = 18 → j ≠ i) : s.latchOpcode ≠ i := hi _ hidx
  have hstart : At _ s.trace s.nextIsAcmd s := ⟨hanswers, rfl, rfl⟩
  have hblocklenDone : CommandDone cfgRef cfgRef.idxSetBlocklen sta1 := commandDone_cfgRef (by decide) hsta1
  obtain ⟨hstatus, hreplayed⟩ := (hstart.configure (t := td) plainCommands_cfgRef hblocklenDone).replayed_of_data_done
    plainCommands_cfgRef (commandDone_cfgRef (hne 0 (by decide)) hsta2) hbearing (dataDone_cfgRef _ hdone herror)
  have ht : t = transferBlock cfgRef td s := readBlock_of_good hp hvalid buffer
  obtain ⟨hnotPending, -, -, -, -, -, -, -, hcompletion, -⟩ := transferBlock_spec cfgRef td s
  have hend := hreplayed.transferBlock
  rw [hstatus] at hcompletion
  rw [← ht] at hend hnotPending hcompletion
  refine ⟨hcompletion, hnotPending, hend.answers, ?_⟩
  rw [hend.events, configureEvents_cfgRef, describe_of_bearing_cfgRef hbearing,
    commandEvents_cfgRef (hne 1 (by decide)) (hne 41 (by decide)) (hne 55 (by decide)),
    controlWord_of_bearing_cfgRef hidx, exitEvents_cfgRef]
  simp only [List.append_assoc, if_true]
  rfl
end
